-- ==== Sys2Proof/Word.lean ====
section
/-! DEFINITION. The word types of the block: packets, pixel cells, bytes (00_scope.md R10, R15; 30_encoding.md R100). -/

namespace Sys2Proof

/-- One command packet `P[127:0]` (30_encoding.md R100). Bit 0 is the least significant (00_scope.md R15). -/
abbrev Packet := BitVec 128

/-- A pixel colour, 24 bits `0xRRGGBB` (00_scope.md R10). -/
abbrev Colour := BitVec 24

/-- A byte of the status byte space (20_memory.md R70). -/
abbrev Byte := BitVec 8

/-- The pixel buffer: 144 cells of 24 bits, by index (10_state.md R32). -/
abbrev Pix := Vector Colour 144

/-- A logical point; arithmetic on coordinates is unbounded (00_scope.md R16). -/
abbrev Point := Int × Int

end Sys2Proof
end

