-- ==== Sys2Proof/Syntax.lean ====
section
/-! DEFINITION. The commands of the block, one constructor per row of spec/opcode_table.json, and the names the
encoding uses: opcodes, formats, packet fields, reasons a packet is illegal. -/

namespace Sys2Proof

/-- One command with the fields its packet carries (30_encoding.md R110, R112). Fields the block ignores are kept
(COLOR[31:24], CIRCLE's FILL and IGN, BYTES past COUNT: R114), so that no bit of a legal packet is lost. -/
inductive Instr where
  /-- NOP (R240). -/
  | nop
  /-- SET x, y, colour (R145). -/
  | set (ign : Bool) (x y : BitVec 16) (color : BitVec 32)
  /-- OFF x, y (R146). -/
  | off (ign : Bool) (x y : BitVec 16)
  /-- FILL colour (R148). -/
  | fill (color : BitVec 32)
  /-- CLEAR (R149). -/
  | clear
  /-- LINE x1, y1, x2, y2, colour (R172). -/
  | line (ign : Bool) (x1 y1 x2 y2 : BitVec 16) (color : BitVec 32)
  /-- RECT x, y, w, h, colour (R175). -/
  | rect (filled ign : Bool) (x y w h : BitVec 16) (color : BitVec 32)
  /-- CIRCLE x, y, r, colour, step (R193). -/
  | circle (filled ign : Bool) (x y r step : BitVec 16) (color : BitVec 32)
  /-- DIGIT x, y, n, colour (R219). -/
  | digit (ign : Bool) (x y n : BitVec 16) (color : BitVec 32)
  /-- NUMBER x, y, n, colour, gap (R224). -/
  | number (ign : Bool) (x y n gap : BitVec 16) (color : BitVec 32)
  /-- GET_PIXEL x, y (R147). -/
  | getPixel (ign : Bool) (x y : BitVec 16)
  /-- SET_TPS v (R236). -/
  | setTps (value : BitVec 32)
  /-- GET_TPS (R237). -/
  | getTps
  /-- CLEAR_DIAG (R241). -/
  | clearDiag
  /-- RUN_ANIM splash, x, y, colour, dur, keep (R256). -/
  | runAnim (kind : BitVec 4) (filled : Bool) (sx sy : BitVec 8) (dur keep color : BitVec 32)
  /-- STOP_ANIM (R257). -/
  | stopAnim
  /-- IS_ANIM_RUNNING (R258). -/
  | isAnimRunning
  /-- TICK (R259). -/
  | tick
  /-- SET_CONTROLS mask (R281). -/
  | setControls (value : BitVec 32)
  /-- GET_CONTROLS (R282). -/
  | getControls
  /-- STATUS_STAGE offset, bytes (R283). -/
  | statusStage (offset : BitVec 16) (count : BitVec 8) (bytes : BitVec 64)
  /-- STATUS_COMMIT len (R284). -/
  | statusCommit (len : BitVec 16)
  /-- GET_STATUS_LEN (R285). -/
  | getStatusLen
  /-- CTRL_RESET (R286). -/
  | ctrlReset
deriving DecidableEq, Repr

/-- The assigned opcodes, by mnemonic (30_encoding.md R112). -/
inductive Op where
  | nop | set | off | fill | clear | line | rect | circle | digit | number | getPixel | setTps | getTps | clearDiag
  | runAnim | stopAnim | isAnimRunning | tick
  | setControls | getControls | statusStage | statusCommit | getStatusLen | ctrlReset
deriving DecidableEq, Repr

/-- The packet formats (30_encoding.md R102 to R109). -/
inductive Format where
  | n | c | p | s | v | a | t | l
deriving DecidableEq, Repr

/-- A packet cut at every field boundary that some format uses (30_encoding.md R101 to R109): OPC [127:120],
KIND [119:116], reserved [115:114], FILL [113], IGN [112], then [111:96], [95:80], [79:64], [63:48], [47:32] and [31:0].
The wider fields of formats A and T are joins of neighbours. -/
structure Fields where
  opc   : BitVec 8
  kind  : BitVec 4
  rsv   : BitVec 2
  fill  : Bool
  ign   : Bool
  hi    : BitVec 16
  a     : BitVec 16
  b     : BitVec 16
  c     : BitVec 16
  d     : BitVec 16
  color : BitVec 32
deriving DecidableEq, Repr

/-- Why a packet spells no command (30_encoding.md R113, 60_exceptions.md R303). -/
inductive IllegalReason where
  /-- The opcode is unassigned (R115). -/
  | unassignedOpcode
  /-- A reserved bit of the opcode's format is 1 (R114). -/
  | reservedBits
  /-- IGN = 1 outside the IGN-legal packets (R111). -/
  | strayIgn
  /-- FILL = 1 outside RECT, CIRCLE, RUN_ANIM (R111). -/
  | strayFill
  /-- KIND is not 0 (R119). -/
  | kindNotSplash
deriving DecidableEq, Repr

/-- What decoding a packet gives: a command, or the reason there is none. -/
inductive Decoded where
  | ok (i : Instr)
  | illegal (why : IllegalReason)
deriving DecidableEq, Repr

/-- A row of spec/opcode_table.json: a packet P is this command when `(P & mask) = match` (30_encoding.md R117). -/
structure OpcodeRow where
  op      : Op
  pattern : Packet
  mask    : Packet
deriving DecidableEq, Repr

end Sys2Proof
end

