-- ==== Sys2Proof/WellFormed.lean ====
section
/-! DEFINITION. Which commands have a packet: the field values a legal packet can carry (30_encoding.md R111, R119, R281). -/

namespace Sys2Proof

/-- A command is well formed when some legal packet spells it. Only two constructors carry a field wider than its
legal values: KIND of RUN_ANIM (only 0 is assigned, R119) and VALUE of SET_CONTROLS (VALUE[31:8] reserved, R106). -/
def Instr.wf : Instr → Bool
  | .nop => true
  | .set _ _ _ _ => true
  | .off _ _ _ => true
  | .fill _ => true
  | .clear => true
  | .line _ _ _ _ _ _ => true
  | .rect _ _ _ _ _ _ _ => true
  | .circle _ _ _ _ _ _ _ => true
  | .digit _ _ _ _ _ => true
  | .number _ _ _ _ _ _ => true
  | .getPixel _ _ _ => true
  | .setTps _ => true
  | .getTps => true
  | .clearDiag => true
  | .runAnim kind _ _ _ _ _ _ => kind == 0#4
  | .stopAnim => true
  | .isAnimRunning => true
  | .tick => true
  | .setControls value => value.extractLsb' 8 24 == 0#24
  | .getControls => true
  | .statusStage _ _ _ => true
  | .statusCommit _ => true
  | .getStatusLen => true
  | .ctrlReset => true

end Sys2Proof
end

