-- ==== Sys2Proof/Decode.lean ====
section
/-! DEFINITION. The decoder (30_encoding.md R113) and, after it, the encoder, both written from the field tables of
30_encoding.md R101 to R109; the opcode table's match and mask rows (R117); and the table words the host asks about. -/

namespace Sys2Proof

/-- The opcode byte of each mnemonic (30_encoding.md R112). -/
def Op.code : Op → BitVec 8
  | .nop => 0x00#8
  | .set => 0x01#8
  | .off => 0x02#8
  | .fill => 0x03#8
  | .clear => 0x04#8
  | .line => 0x05#8
  | .rect => 0x06#8
  | .circle => 0x07#8
  | .digit => 0x08#8
  | .number => 0x09#8
  | .getPixel => 0x0A#8
  | .setTps => 0x0B#8
  | .getTps => 0x0C#8
  | .clearDiag => 0x0F#8
  | .runAnim => 0x10#8
  | .stopAnim => 0x11#8
  | .isAnimRunning => 0x12#8
  | .tick => 0x13#8
  | .setControls => 0x18#8
  | .getControls => 0x19#8
  | .statusStage => 0x1A#8
  | .statusCommit => 0x1B#8
  | .getStatusLen => 0x1C#8
  | .ctrlReset => 0x1D#8

/-- The format of each mnemonic (30_encoding.md R112). -/
def Op.format : Op → Format
  | .nop => .n
  | .set => .p
  | .off => .p
  | .fill => .c
  | .clear => .n
  | .line => .s
  | .rect => .s
  | .circle => .s
  | .digit => .s
  | .number => .s
  | .getPixel => .p
  | .setTps => .v
  | .getTps => .n
  | .clearDiag => .n
  | .runAnim => .a
  | .stopAnim => .n
  | .isAnimRunning => .n
  | .tick => .n
  | .setControls => .v
  | .getControls => .n
  | .statusStage => .t
  | .statusCommit => .l
  | .getStatusLen => .n
  | .ctrlReset => .n

/-- Every assigned opcode, in the table's order (30_encoding.md R112). -/
def Op.table : List Op :=
  [.nop, .set, .off, .fill, .clear, .line, .rect, .circle, .digit, .number, .getPixel, .setTps, .getTps, .clearDiag,
    .runAnim, .stopAnim, .isAnimRunning, .tick, .setControls, .getControls, .statusStage, .statusCommit, .getStatusLen,
    .ctrlReset]

/-- The command of an opcode byte; `none` for the unassigned ones (30_encoding.md R115). -/
def opOfCode (c : BitVec 8) : Option Op := Op.table.find? (fun op => op.code == c)

/-- The packets whose IGN bit may be 1 (30_encoding.md R111). -/
def Op.ignLegal : Op → Bool
  | .set | .off | .getPixel | .line | .rect | .circle | .digit | .number => true
  | .nop | .fill | .clear | .setTps | .getTps | .clearDiag | .runAnim | .stopAnim | .isAnimRunning | .tick => false
  | .setControls | .getControls | .statusStage | .statusCommit | .getStatusLen | .ctrlReset => false

/-- The packets whose FILL bit may be 1 (30_encoding.md R111). -/
def Op.fillLegal : Op → Bool
  | .rect | .circle | .runAnim => true
  | .nop | .set | .off | .fill | .clear | .line | .digit | .number | .getPixel | .setTps | .getTps | .clearDiag => false
  | .stopAnim | .isAnimRunning | .tick | .setControls | .getControls | .statusStage | .statusCommit => false
  | .getStatusLen | .ctrlReset => false

/-- The fields of a packet (30_encoding.md R101 to R109). -/
def splitPacket (p : Packet) : Fields where
  opc   := p.extractLsb' 120 8
  kind  := p.extractLsb' 116 4
  rsv   := p.extractLsb' 114 2
  fill  := p.getLsbD 113
  ign   := p.getLsbD 112
  hi    := p.extractLsb' 96 16
  a     := p.extractLsb' 80 16
  b     := p.extractLsb' 64 16
  c     := p.extractLsb' 48 16
  d     := p.extractLsb' 32 16
  color := p.extractLsb' 0 32

/-- The packet of a set of fields: their concatenation, most significant first. -/
def joinFields (f : Fields) : Packet :=
  f.opc ++ f.kind ++ f.rsv ++ BitVec.ofBool f.fill ++ BitVec.ofBool f.ign ++ f.hi ++ f.a ++ f.b ++ f.c ++ f.d ++ f.color

/-- Every reserved bit of the command's format below the flags is 0, and so is [115:114] (30_encoding.md R101 to R109):
"a packet with a 1 in any reserved bit is illegal" (R114). -/
def reservedClear (op : Op) (f : Fields) : Bool :=
  f.rsv == 0#2 &&
  match op.format with
  | .n => f.hi == 0#16 && f.a == 0#16 && f.b == 0#16 && f.c == 0#16 && f.d == 0#16 && f.color == 0#32
  | .c => f.hi == 0#16 && f.a == 0#16 && f.b == 0#16 && f.c == 0#16 && f.d == 0#16
  | .p => f.hi == 0#16 && f.c == 0#16 && f.d == 0#16 && (op == .set || f.color == 0#32)
  | .s => f.hi == 0#16 && (op != .digit || f.d == 0#16)
  | .v => f.hi == 0#16 && f.a == 0#16 && f.b == 0#16 && f.c == 0#16 && f.d == 0#16
            && (op != .setControls || f.color.extractLsb' 8 24 == 0#24)
  | .a => true
  | .t => f.a.extractLsb' 0 8 == 0#8 && f.b == 0#16
  | .l => f.a == 0#16 && f.b == 0#16 && f.c == 0#16 && f.d == 0#16 && f.color == 0#32

/-- The command of an opcode with its operand fields (30_encoding.md R110). -/
def buildInstr (op : Op) (f : Fields) : Instr :=
  match op with
  | .nop => .nop
  | .set => .set f.ign f.a f.b f.color
  | .off => .off f.ign f.a f.b
  | .fill => .fill f.color
  | .clear => .clear
  | .line => .line f.ign f.a f.b f.c f.d f.color
  | .rect => .rect f.fill f.ign f.a f.b f.c f.d f.color
  | .circle => .circle f.fill f.ign f.a f.b f.c f.d f.color
  | .digit => .digit f.ign f.a f.b f.c f.color
  | .number => .number f.ign f.a f.b f.c f.d f.color
  | .getPixel => .getPixel f.ign f.a f.b
  | .setTps => .setTps f.color
  | .getTps => .getTps
  | .clearDiag => .clearDiag
  | .runAnim => .runAnim f.kind f.fill (f.hi.extractLsb' 8 8) (f.hi.extractLsb' 0 8) (f.a ++ f.b) (f.c ++ f.d) f.color
  | .stopAnim => .stopAnim
  | .isAnimRunning => .isAnimRunning
  | .tick => .tick
  | .setControls => .setControls f.color
  | .getControls => .getControls
  | .statusStage => .statusStage f.hi (f.a.extractLsb' 8 8) (f.c ++ f.d ++ f.color)
  | .statusCommit => .statusCommit f.hi
  | .getStatusLen => .getStatusLen
  | .ctrlReset => .ctrlReset

/-- Decoding cut fields: the checks of 30_encoding.md R113, in its order. -/
def decodeFields (f : Fields) : Decoded :=
  match opOfCode f.opc with
  | none => .illegal .unassignedOpcode
  | some op =>
    if !reservedClear op f then .illegal .reservedBits
    else if f.ign && !op.ignLegal then .illegal .strayIgn
    else if f.fill && !op.fillLegal then .illegal .strayFill
    else if f.kind != 0#4 then .illegal .kindNotSplash
    else .ok (buildInstr op f)

/-- The decode procedure, "applied to every packet before any effect" (30_encoding.md R113). Total on any 128 bits. -/
def decode (p : Packet) : Decoded := decodeFields (splitPacket p)

/-- The mnemonic of a command. -/
def Instr.op : Instr → Op
  | .nop => .nop
  | .set _ _ _ _ => .set
  | .off _ _ _ => .off
  | .fill _ => .fill
  | .clear => .clear
  | .line _ _ _ _ _ _ => .line
  | .rect _ _ _ _ _ _ _ => .rect
  | .circle _ _ _ _ _ _ _ => .circle
  | .digit _ _ _ _ _ => .digit
  | .number _ _ _ _ _ _ => .number
  | .getPixel _ _ _ => .getPixel
  | .setTps _ => .setTps
  | .getTps => .getTps
  | .clearDiag => .clearDiag
  | .runAnim _ _ _ _ _ _ _ => .runAnim
  | .stopAnim => .stopAnim
  | .isAnimRunning => .isAnimRunning
  | .tick => .tick
  | .setControls _ => .setControls
  | .getControls => .getControls
  | .statusStage _ _ _ => .statusStage
  | .statusCommit _ => .statusCommit
  | .getStatusLen => .getStatusLen
  | .ctrlReset => .ctrlReset

/-- The fields of a packet that holds its opcode and nothing else: every format's reserved bits are 0 here. -/
def bareFields (op : Op) : Fields where
  opc   := op.code
  kind  := 0
  rsv   := 0
  fill  := false
  ign   := false
  hi    := 0
  a     := 0
  b     := 0
  c     := 0
  d     := 0
  color := 0

/-- The fields of a command's packet (30_encoding.md R102 to R110). -/
def encodeFields (i : Instr) : Fields :=
  match i with
  | .nop => bareFields .nop
  | .set ign x y color => { bareFields .set with ign := ign, a := x, b := y, color := color }
  | .off ign x y => { bareFields .off with ign := ign, a := x, b := y }
  | .fill color => { bareFields .fill with color := color }
  | .clear => bareFields .clear
  | .line ign x1 y1 x2 y2 color =>
    { bareFields .line with ign := ign, a := x1, b := y1, c := x2, d := y2, color := color }
  | .rect filled ign x y w h color =>
    { bareFields .rect with fill := filled, ign := ign, a := x, b := y, c := w, d := h, color := color }
  | .circle filled ign x y r step color =>
    { bareFields .circle with fill := filled, ign := ign, a := x, b := y, c := r, d := step, color := color }
  | .digit ign x y n color => { bareFields .digit with ign := ign, a := x, b := y, c := n, color := color }
  | .number ign x y n gap color =>
    { bareFields .number with ign := ign, a := x, b := y, c := n, d := gap, color := color }
  | .getPixel ign x y => { bareFields .getPixel with ign := ign, a := x, b := y }
  | .setTps value => { bareFields .setTps with color := value }
  | .getTps => bareFields .getTps
  | .clearDiag => bareFields .clearDiag
  | .runAnim kind filled sx sy dur keep color =>
    { bareFields .runAnim with
        kind := kind, fill := filled, hi := sx ++ sy,
        a := dur.extractLsb' 16 16, b := dur.extractLsb' 0 16,
        c := keep.extractLsb' 16 16, d := keep.extractLsb' 0 16, color := color }
  | .stopAnim => bareFields .stopAnim
  | .isAnimRunning => bareFields .isAnimRunning
  | .tick => bareFields .tick
  | .setControls value => { bareFields .setControls with color := value }
  | .getControls => bareFields .getControls
  | .statusStage offset count bytes =>
    { bareFields .statusStage with
        hi := offset, a := count ++ 0#8,
        c := bytes.extractLsb' 48 16, d := bytes.extractLsb' 32 16, color := bytes.extractLsb' 0 32 }
  | .statusCommit len => { bareFields .statusCommit with hi := len }
  | .getStatusLen => bareFields .getStatusLen
  | .ctrlReset => bareFields .ctrlReset

/-- The packet of a command, from the encoding tables of 30_encoding.md R101 to R112. -/
def encode (i : Instr) : Packet := joinFields (encodeFields i)

/-- The match and mask rows of spec/opcode_table.json (30_encoding.md R117), as the table writes them. -/
def opcodeRows : List OpcodeRow :=
  [
    ⟨.nop, 0x00000000000000000000000000000000#128, 0xFFFFFFFFFFFFFFFFFFFFFFFFFFFFFFFF#128⟩,
    ⟨.set, 0x01000000000000000000000000000000#128, 0xFFFEFFFF00000000FFFFFFFF00000000#128⟩,
    ⟨.off, 0x02000000000000000000000000000000#128, 0xFFFEFFFF00000000FFFFFFFFFFFFFFFF#128⟩,
    ⟨.fill, 0x03000000000000000000000000000000#128, 0xFFFFFFFFFFFFFFFFFFFFFFFF00000000#128⟩,
    ⟨.clear, 0x04000000000000000000000000000000#128, 0xFFFFFFFFFFFFFFFFFFFFFFFFFFFFFFFF#128⟩,
    ⟨.line, 0x05000000000000000000000000000000#128, 0xFFFEFFFF000000000000000000000000#128⟩,
    ⟨.rect, 0x06000000000000000000000000000000#128, 0xFFFCFFFF000000000000000000000000#128⟩,
    ⟨.circle, 0x07000000000000000000000000000000#128, 0xFFFCFFFF000000000000000000000000#128⟩,
    ⟨.digit, 0x08000000000000000000000000000000#128, 0xFFFEFFFF000000000000FFFF00000000#128⟩,
    ⟨.number, 0x09000000000000000000000000000000#128, 0xFFFEFFFF000000000000000000000000#128⟩,
    ⟨.getPixel, 0x0A000000000000000000000000000000#128, 0xFFFEFFFF00000000FFFFFFFFFFFFFFFF#128⟩,
    ⟨.setTps, 0x0B000000000000000000000000000000#128, 0xFFFFFFFFFFFFFFFFFFFFFFFF00000000#128⟩,
    ⟨.getTps, 0x0C000000000000000000000000000000#128, 0xFFFFFFFFFFFFFFFFFFFFFFFFFFFFFFFF#128⟩,
    ⟨.clearDiag, 0x0F000000000000000000000000000000#128, 0xFFFFFFFFFFFFFFFFFFFFFFFFFFFFFFFF#128⟩,
    ⟨.runAnim, 0x10000000000000000000000000000000#128, 0xFFFD0000000000000000000000000000#128⟩,
    ⟨.stopAnim, 0x11000000000000000000000000000000#128, 0xFFFFFFFFFFFFFFFFFFFFFFFFFFFFFFFF#128⟩,
    ⟨.isAnimRunning, 0x12000000000000000000000000000000#128, 0xFFFFFFFFFFFFFFFFFFFFFFFFFFFFFFFF#128⟩,
    ⟨.tick, 0x13000000000000000000000000000000#128, 0xFFFFFFFFFFFFFFFFFFFFFFFFFFFFFFFF#128⟩,
    ⟨.setControls, 0x18000000000000000000000000000000#128, 0xFFFFFFFFFFFFFFFFFFFFFFFFFFFFFF00#128⟩,
    ⟨.getControls, 0x19000000000000000000000000000000#128, 0xFFFFFFFFFFFFFFFFFFFFFFFFFFFFFFFF#128⟩,
    ⟨.statusStage, 0x1A000000000000000000000000000000#128, 0xFFFF000000FFFFFF0000000000000000#128⟩,
    ⟨.statusCommit, 0x1B000000000000000000000000000000#128, 0xFFFF0000FFFFFFFFFFFFFFFFFFFFFFFF#128⟩,
    ⟨.getStatusLen, 0x1C000000000000000000000000000000#128, 0xFFFFFFFFFFFFFFFFFFFFFFFFFFFFFFFF#128⟩,
    ⟨.ctrlReset, 0x1D000000000000000000000000000000#128, 0xFFFFFFFFFFFFFFFFFFFFFFFFFFFFFFFF#128⟩]

/-- "A packet P is the command of a row when `(P & mask) = match`" (30_encoding.md R117). -/
def OpcodeRow.matchesPacket (r : OpcodeRow) (p : Packet) : Bool := p &&& r.mask == r.pattern

/-- The packet whose bits are `w` as spec/opcode_table.json numbers them: a packet is one 128-bit word with bit 0 its least
significant (00_scope.md R15), and every bit from `nbits` up is 0. -/
def packetOfTableWord (nbits w : Nat) : Packet := BitVec.ofNat 128 (w % 2 ^ nbits)

/-- The command the decoder reads from a table word; `none` where it refuses. -/
def decodeTableWord (nbits w : Nat) : Option Instr :=
  match decode (packetOfTableWord nbits w) with
  | .ok i => some i
  | .illegal _ => none

end Sys2Proof
end

