-- ==== Sys2Proof/Config.lean ====
section
/-! DEFINITION. What an implementation fixes (the parameters of 00_scope.md R12) and the free values (93_implementation_defined.md). -/

namespace Sys2Proof.Config

/-- CIRCLE_ANGLE_UNIT (00_scope.md R12, 42_circle.md R191): how the circle sampler reads a sample number. -/
inductive AngleUnit where
  /-- RADIANS_AS_GIVEN: sample number n is n radians. -/
  | radiansAsGiven
  /-- DEGREES: sample number n is n degrees. -/
  | degrees
deriving DecidableEq, Repr

/-- The parameters "a model takes as arguments" (00_scope.md R12). TRIG_FRAC_BITS is not among them: the
spec's only ROM table has 30 fraction bits (`trigFracBits`). -/
structure Params where
  /-- STATUS_CAP, the capacity of the status string buffer in bytes. -/
  statusCap : Nat
  /-- CIRCLE_ANGLE_UNIT. -/
  angleUnit : AngleUnit
deriving DecidableEq, Repr

/-- The values the spec decides (00_scope.md R12). -/
def decided : Params := { statusCap := 256, angleUnit := .radiansAsGiven }

/-- "STATUS_CAP must be a multiple of 4 and at most 15360 so the status window fits" (20_memory.md R72). -/
abbrev Params.legal (p : Params) : Prop := p.statusCap % 4 = 0 ∧ p.statusCap ≤ 15360

/-- TRIG_FRAC_BITS: fraction bits of the circle ROM entries (00_scope.md R12, 43_circle_rom.md R210; DEDUCED, log 17). -/
def trigFracBits : Nat := 30

/-- FREE VALUE (log 3). What an export read returns while BUSY = 1 (other than word 0x090) or while reset is
asserted: "a model gives such a read a free draw" (20_memory.md R78, 70_reset_and_hazards.md R330). The argument
counts the draws. -/
opaque freeExportWord : Nat → BitVec 32

/-- FREE VALUE (log 4). Whether a strobe that arrives while BUSY = 1 is placed after the packet's step (`true`) or
before it: "either order is admitted" (20_memory.md R81). The argument counts the draws. -/
opaque strobeAfterPacket : Nat → Bool

end Sys2Proof.Config
end

