-- ==== Sys2Proof/Machine/State.lean ====
section
/-! DEFINITION. The state of the block (10_state.md), the turns of its agents, the reasons a step could stop, and the
state right after reset. Plain data throughout. -/

namespace Sys2Proof.Machine

/-- A byte memory: (address, byte) cells, addresses strictly rising, no cell holding 0x00. An unlisted address reads
0x00, the reset value the spec gives STATUS and STAGE (10_state.md R52; DESIGN CHOICE, log 11). -/
abbrev Memory := List Host.Cell

/-- Why a step could stop. The block has no fault: "every packet, legal or not, completes with a response and the next
packet is accepted" (60_exceptions.md R305). So this type has no constructor, and nothing raises one: safe (DEDUCED,
log 19). -/
inductive Fault where
deriving DecidableEq, Repr

/-- Why a step could be refused. -/
inductive Refusal where
  /-- An arm of `exec` whose instruction has no meaning. Raised by nobody: every command has its meaning. Safe. -/
  | notModelled (mnemonic : String)
deriving DecidableEq, Repr

/-- The animation slot (10_state.md R37 to R43). -/
structure Slot where
  /-- ACTIVE: 1 when the slot holds an animation (Running), 0 when not (Idle). -/
  active   : Bool
  /-- KIND[3:0]: 0 is SPLASH. -/
  kind     : BitVec 4
  /-- SX[7:0]: Splash centre, two's complement. -/
  sx       : BitVec 8
  /-- SY[7:0]: Splash centre, two's complement. -/
  sy       : BitVec 8
  /-- SCOLOR[23:0]. -/
  scolor   : Colour
  /-- SFILL: the Splash filled flag. -/
  sfill    : Bool
  /-- MAXR[7:0]: Splash maximum radius, unsigned. -/
  maxr     : BitVec 8
  /-- DURATION[31:0], unsigned milliseconds. -/
  duration : BitVec 32
  /-- KEEP[31:0], unsigned milliseconds. -/
  keep     : BitVec 32
  /-- START[63:0]: NOW at activation. -/
  start    : BitVec 64
deriving DecidableEq, Repr

/-- The Idle slot: every register 0 (10_state.md R44, 46_animation.md R263). -/
def Slot.idle : Slot where
  active := false
  kind := 0
  sx := 0
  sy := 0
  scolor := 0
  sfill := false
  maxr := 0
  duration := 0
  keep := 0
  start := 0

/-- RESP: DATA and the three response flags (10_state.md R50, 60_exceptions.md R300). "The block has no other condition codes"
(00_scope.md R19): no later command reads these flags (10_state.md R54), and DIAG, which keeps them, is read by CLEAR_DIAG and
the export port alone. -/
structure Response where
  data  : BitVec 32
  oor   : Bool
  unsup : Bool
  ill   : Bool
deriving DecidableEq, Repr

/-- What a drawing command works on: the pixel buffer and the OOR flag raised so far (40_pixel.md R143). -/
structure Canvas where
  pix : Pix
  oor : Bool
deriving DecidableEq, Repr

/-- A turn of one agent (00_scope.md R7) or a change of the reset input (70_reset_and_hazards.md R330); DESIGN CHOICE, log 1. -/
inductive Turn where
  /-- The ENGINE finishes the packet it accepted; nothing if there is none (R333). -/
  | engine
  /-- The HOST presents a whole packet on the command port (R333). -/
  | present (p : Packet)
  /-- The HOST presents one 32-bit beat of a packet (20_memory.md R74). -/
  | beat (w : BitVec 32)
  /-- The HOST reads an export-port word (20_memory.md R73). -/
  | read (a : BitVec 12)
  /-- The HOST writes to the export port, which has no write path (20_memory.md R73). -/
  | write (a : BitVec 12) (v : BitVec 32)
  /-- A TIMEBASE strobe (10_state.md R36). -/
  | strobe
  /-- The reset input is asserted (`true`) or released (`false`) (70_reset_and_hazards.md R330). -/
  | resetInput (asserted : Bool)
deriving DecidableEq, Repr

/-- The whole state. Up to `heldStrobes` the fields are the block's; the last four are the model's own. -/
structure State where
  /-- PIX[0..143] (R32). -/
  pix           : Pix
  /-- TPS[15:0], the tick-rate hint (R34). -/
  tps           : BitVec 16
  /-- DIAG[2:0]: bit 0 OOR, bit 1 UNSUP, bit 2 ILL (R35). -/
  diag          : BitVec 3
  /-- NOW[63:0], the millisecond counter (R36). -/
  now           : BitVec 64
  /-- The animation slot: ACTIVE, KIND, SX, SY, SCOLOR, SFILL, MAXR, DURATION, KEEP, START (R37 to R43). -/
  slot          : Slot
  /-- CONTROLS[7:0] (R45). -/
  controls      : BitVec 8
  /-- STATUS[0..STATUS_CAP-1] (R46). -/
  status        : Memory
  /-- STATUS_LEN[15:0] (R46). -/
  statusLen     : BitVec 16
  /-- STAGE[0..STATUS_CAP-1] (R47). -/
  stage         : Memory
  /-- NOTIFY_COUNT[31:0] (R48). -/
  notifyCount   : BitVec 32
  /-- RESP (R50). -/
  resp          : Response
  /-- NOTIFY output: true when the latest step pulsed it (R51; DEDUCED, log 9). -/
  notifyOut     : Bool
  /-- The packet accepted and not yet executed; BUSY = 1 exactly while there is one (R49, R333; DEDUCED, log 2). -/
  inFlight      : Option Packet
  /-- The beats of a partial packet, the first to arrive first (R74, R75; DEDUCED, log 8). -/
  beats         : List (BitVec 32)
  /-- The level of the reset input (R330). -/
  resetAsserted : Bool
  /-- Strobes that arrived while BUSY = 1 and are placed after the packet's step (R81; DESIGN CHOICE, log 4). -/
  heldStrobes   : Nat
  /-- MODEL's own: what the agents do next (DESIGN CHOICE, log 1). -/
  agenda        : List Turn
  /-- MODEL's own: what the HOST's last export read returned (DESIGN CHOICE, log 6). -/
  exportData    : BitVec 32
  /-- MODEL's own: how many free values were drawn (DESIGN CHOICE, log 7). -/
  freeCount     : Nat
  /-- MODEL's own: the parameters of 00_scope.md R12 the machine was built with; no step changes them (DEDUCED, log 5). -/
  params        : Config.Params
deriving DecidableEq, Repr

/-- BUSY (10_state.md R49): 1 from the acceptance of a packet until its response. -/
def State.busy (s : State) : Bool := s.inFlight.isSome

/-- The state after reset (10_state.md R52): every register 0, PIX black, slot Idle, status empty. -/
def State.reset : State where
  pix := Vector.replicate 144 0
  tps := 0
  diag := 0
  now := 0
  slot := Slot.idle
  controls := 0
  status := []
  statusLen := 0
  stage := []
  notifyCount := 0
  resp := { data := 0, oor := false, unsup := false, ill := false }
  notifyOut := false
  inFlight := none
  beats := []
  resetAsserted := false
  heldStrobes := 0
  agenda := []
  exportData := 0
  freeCount := 0
  params := Config.decided

end Sys2Proof.Machine
end

