-- ==== Sys2Proof/Machine/Flags.lean ====
section
/-! DEFINITION. The response flags and the sticky diagnostic bits (60_exceptions.md R300 to R307). -/

namespace Sys2Proof.Machine

/-- `{ILL, UNSUP, OOR}`: each flag at its DIAG bit (60_exceptions.md R300). -/
def Response.flags (r : Response) : BitVec 3 := BitVec.ofBool r.ill ++ BitVec.ofBool r.unsup ++ BitVec.ofBool r.oor

/-- A response with no flag. -/
def okResponse (data : BitVec 32) : Response := { data := data, oor := false, unsup := false, ill := false }

/-- The response of a drawing command: DATA = 0, OOR when some access was diagnosed (60_exceptions.md R301). -/
def drawResponse (oor : Bool) : Response := { data := 0, oor := oor, unsup := false, ill := false }

/-- The response of unsupported input: DATA = 0 and UNSUP (60_exceptions.md R302). -/
def unsupResponse : Response := { data := 0, oor := false, unsup := true, ill := false }

/-- The response of an illegal packet: DATA = 0 and ILL (60_exceptions.md R303). -/
def illResponse : Response := { data := 0, oor := false, unsup := false, ill := true }

/-- DIAG after a packet with response `r`: `DIAG | {ILL, UNSUP, OOR}` (60_exceptions.md R307). -/
def stickyDiag (old : BitVec 3) (r : Response) : BitVec 3 := old ||| r.flags

end Sys2Proof.Machine
end

