-- ==== Sys2Proof/Machine/Operands.lean ====
section
/-! DEFINITION. How packet fields become operands (30_encoding.md R110). -/

namespace Sys2Proof.Machine

/-- `sext_16`: a coordinate operand (x, y, x1, y1, x2, y2). -/
def coord (f : BitVec 16) : Int := f.toInt

/-- `sext_8`: a Splash centre coordinate. -/
def centre (f : BitVec 8) : Int := f.toInt

/-- `zext_16`: a size, radius, digit, number, step, gap, offset or length operand. -/
def size (f : BitVec 16) : Nat := f.toNat

/-- `zext_8`: the COUNT operand of STATUS_STAGE. -/
def byteCount (f : BitVec 8) : Nat := f.toNat

/-- `zext_32`: a millisecond operand (DUR, KEEP). -/
def millis (f : BitVec 32) : Nat := f.toNat

/-- `sext_32`: the tick-rate operand, in 1/256 tick per second. -/
def rate (f : BitVec 32) : Int := f.toInt

/-- `COLOR[23:0]`; COLOR[31:24] is ignored (30_encoding.md R116). -/
def colour (f : BitVec 32) : Colour := f.extractLsb' 0 24

/-- `VALUE[7:0]`, the control mask (47_control_state.md R281). -/
def maskOf (f : BitVec 32) : BitVec 8 := f.extractLsb' 0 8

/-- Byte i of BYTES: bits [8i+7:8i] (20_memory.md R74, 47_control_state.md R283). -/
def stagedByte (bytes : BitVec 64) (i : Nat) : Byte := bytes.extractLsb' (8 * i) 8

end Sys2Proof.Machine
end

