-- ==== Sys2Proof/Machine/Ops.lean ====
section
/-! DEFINITION. The shared operations: byte memory, the pixel addresser (40_pixel.md R140 to R144), responses and
diagnostics (60_exceptions.md R300 to R307; the block has no exception to take or return from, R309), the change
notification (47_control_state.md R280), slot release (46_animation.md R263), and the reset input (R330). -/

namespace Sys2Proof.Machine

/-! ### Byte memory -/

/-- The byte at an address; an unlisted address reads 0x00 (10_state.md R52). -/
def Memory.read : Memory → Nat → Byte
  | [], _ => 0#8
  | (k, v) :: rest, a => if k = a then v else Memory.read rest a

/-- Store one byte, keeping the canonical form: the cell stands in address order, and 0x00 is not listed. -/
def Memory.write : Memory → Nat → Byte → Memory
  | [], a, b => if b = 0#8 then [] else [(a, b)]
  | (k, v) :: rest, a, b =>
    if a < k then (if b = 0#8 then (k, v) :: rest else (a, b) :: (k, v) :: rest)
    else if a = k then (if b = 0#8 then rest else (a, b) :: rest)
    else (k, v) :: Memory.write rest a b

/-- The first `len` bytes; every other address reads 0x00 (the loop of 47_control_state.md R284). -/
def Memory.takeBelow (m : Memory) (len : Nat) : Memory := m.filter (fun cell => cell.1 < len)

/-- Every listed address lies above `a`. -/
def Memory.above (a : Nat) : Memory → Bool
  | [] => true
  | (k, _) :: rest => decide (a < k) && Memory.above a rest

/-- The canonical form: addresses strictly rising and no cell holding 0x00. -/
def Memory.wf : Memory → Bool
  | [] => true
  | (k, v) :: rest => v != 0#8 && Memory.above k rest && Memory.wf rest

/-- Every listed address lies below `cap`. -/
def Memory.below (cap : Nat) : Memory → Bool
  | [] => true
  | (k, _) :: rest => decide (k < cap) && Memory.below cap rest

/-- Store the bytes `f 0 … f (n-1)` at `a, a+1, …`, in that order. -/
def Memory.writeRun (m : Memory) (a : Nat) (f : Nat → Byte) (n : Nat) : Memory :=
  (List.range n).foldl (fun m i => Memory.write m (a + i) (f i)) m

/-! ### Pixel addressing -/

/-- `InGrid(x, y)` (40_pixel.md R140). -/
abbrev InGrid (x y : Int) : Prop := 0 ≤ x ∧ x ≤ 11 ∧ 0 ≤ y ∧ y ≤ 11

/-- `Index(x, y) = x + (11 - y) * 12`, for InGrid points (40_pixel.md R141). -/
def pixelIndex (x y : Int) : Nat := (x + (11 - y) * 12).toNat

/-- The cell of index `i`. Indices from 144 up name no cell; no rule forms one (20_memory.md R70). -/
def cellAt (pix : Pix) (i : Nat) : Colour := (pix[i]?).getD 0#24

/-- Every cell holds `c` (40_pixel.md R148, R149). -/
def solid (c : Colour) : Pix := Vector.replicate 144 c

/-- `PixWrite(x, y, c, ign)` (40_pixel.md R143). -/
def pixWrite (c : Colour) (ign : Bool) (k : Canvas) (p : Point) : Canvas :=
  if InGrid p.1 p.2 then { k with pix := k.pix.setIfInBounds (pixelIndex p.1 p.2) c }
  else if ign then k
  else { k with oor := true }

/-- `PixWrite` at each point of a list, in order. -/
def paint (c : Colour) (ign : Bool) (points : List Point) (k : Canvas) : Canvas := points.foldl (pixWrite c ign) k

/-- The value of `PixRead(x, y, ign)` (40_pixel.md R144): 0 out of the grid. -/
def pixRead (pix : Pix) (x y : Int) : Colour := if InGrid x y then cellAt pix (pixelIndex x y) else 0#24

/-- Whether an access at (x, y) raises OOR (40_pixel.md R143, R144). -/
def raisesOor (x y : Int) (ign : Bool) : Bool := !decide (InGrid x y) && !ign

/-! ### Responses -/

/-- Present the response and drop BUSY (70_reset_and_hazards.md R333, 10_state.md R49, R50). -/
def complete (r : Response) (s : State) : State := { s with resp := r, inFlight := none }

/-- `complete`, with the flags kept in DIAG: every packet but a legal CLEAR_DIAG ends so (60_exceptions.md R307). -/
def respond (r : Response) (s : State) : State := complete r { s with diag := stickyDiag s.diag r }

/-- A packet that raises UNSUP "changes no state except RESP, DIAG and BUSY, and its DATA is 0" (60_exceptions.md R302). -/
def rejectUnsupported (s : State) : State := respond unsupResponse s

/-- The effect of an illegal packet (60_exceptions.md R303). -/
def rejectIllegal (s : State) : State := respond illResponse s

/-- End of a drawing command that painted `points` (40_pixel.md R143, 60_exceptions.md R301). -/
def drawAndRespond (c : Colour) (ign : Bool) (points : List Point) (s : State) : State :=
  let k := paint c ign points { pix := s.pix, oor := false }
  respond (drawResponse k.oor) { s with pix := k.pix }

/-! ### Slot, notification, reset -/

/-- `release()`: every slot register 0; PIX untouched (46_animation.md R263). -/
def release (s : State) : State := { s with slot := Slot.idle }

/-- `notify()`: count the notification modulo 2^32 and pulse NOTIFY (47_control_state.md R280). -/
def notify (s : State) : State := { s with notifyCount := s.notifyCount + 1#32, notifyOut := true }

/-- The reset input is asserted: every piece of state takes its reset value, the packet in progress is abandoned
(70_reset_and_hazards.md R330). The parameters and what lies outside the block stay (logs 1, 5, 6, 7, 18). -/
def assertReset (s : State) : State :=
  { State.reset with
      resetAsserted := true, agenda := s.agenda, exportData := s.exportData, freeCount := s.freeCount, params := s.params }

end Sys2Proof.Machine
end

