-- ==== Sys2Proof/Machine/Rom.lean ====
section
/-! DEFINITION. The circle sampler ROM, 360 rows of four constants (43_circle_rom.md R210, R211): cosine and sine of n
radians (cosR, sinR) and of n degrees (cosD, sinD), rounded to the nearest multiple of 2^-30. -/

namespace Sys2Proof.Machine

/-- COS_R[0..59]. -/
def cosR000 : List Int :=
  [1073741824, 580145183, -446834263, -1062996349, -701844494, 304579952, 1030974995, 809496382, -156229472, -978318669,
   -900946194, 4752057, 906081289, 974363562, 146820470, -815708685, -1028279037, -295454384, 709009667, 1061613500,
   438174777, -588119815, -1073699762, -572125099, 455458741, 1064295915, 694624333, -313681657, -1033590179, -803220656,
   165626233, 982197128, 895740513, -14255799, -911145395, -970332117, -137399966, 821857080, 1025502517, 286305669,
   -716119291, -1060147477, -429480962, 596048369, 1073573578, 564060190, -464047535, -1065512097, -687349751, 322758786,
   1036124384, 796882001, -175010018, -985998634, -890464653, 23758424, 916138115, 966224648, 127968696, -827941085]

/-- COS_R[60..119]. -/
def cosR060 : List Int :=
  [-1022645651, -277134521, 723172809, 1058598394, 420753497, -603930224, -1073363283, -555951089, 472599972, 1066644798,
   680021316, -331810628, -1038577411, -790480912, 184380092, 989722890, 885119027, -33259187, -921059058, -962041479,
   -118527401, 833960223, 1019708664, 267941661, -730169669, -1056966373, -411993068, 611764763, 1073068892, 547798431,
   -481115382, -1067693931, -672639604, 340836473, 1040949069, 784017891, -193735720, -993369603, -879704055, 42757345,
   925907839, 957782936, 109076819, -839914022, -1016691785, -258727809, 737109321, 1055251541, 403200360, -619551372,
   -1072690430, -539602854, 489593098, 1068659413, 665205193, -349835615, -1043239171, -777493445, 203076169, 996938489]

/-- COS_R[120..179]. -/
def cosR120 : List Int :=
  [874220160, -52252153, -930684077, -953449354, -99617691, 845802017, 1013595251, 249493686, -743991224, -1053454033,
   -394376063, 627289441, 1072227926, 531365001, -498032456, -1069541169, -657718664, 358807347, 1045447538, 770908084,
   -212400708, -1000429268, -868667773, 61742866, 935387399, 949041071, 90150759, -851623745, -1010419305, -240240016,
   750814836, 1051573991, 385520868, -634978363, -1071681415, -523085516, 506432794, 1070339129, 650180605, -367750969,
   -1047573998, -764262324, 221708606, 1003841666, 863047328, -71228743, -940017436, -944558434, -80676763, 857378751,
   1007164196, 230967524, -757579625, -1049611560, -376635467, 642617537, 1071050941, 514765050, -514793455, -1071053231]

/-- COS_R[180..239]. -/
def cosR180 : List Int :=
  [-642591606, 376665778, 1049618383, 757556687, -230999133, -1007175416, -857359266, 80709039, 944573826, 940001793,
   71196447, -863066584, -1003830178, -221676936, 764285059, 1047566895, 367720559, -650206363, -1070336554, -506404253,
   523113783, 1071683419, 634952262, -385551076, -1051580533, -750791697, 240271562, 1010430256, 851604032, -90183012,
   -949056210, -935371506, -61710553, 868686798, 1000417513, 212368980, -770930614, -1045440156, -358776841, 657744248,
   1069538308, 498003780, -531393126, -1072229643, -627263171, 394406168, 1053460295, 743967885, -249525167, -1013605932,
   -845782077, 99649919, 953464239, 930667935, 52219824, -874238953, -996926468, -203044386, 777515768, 1043231510]

/-- COS_R[240..299]. -/
def cosR240 : List Int :=
  [349805013, -665230600, -1068656267, -489564291, 539630837, 1072691862, 619524936, -403230359, -1055257521, -737085785,
   258759222, 1016702195, 839893858, -109109019, -957797566, -925891449, -42725003, 879722613, 993357316, 193703884,
   -784040006, -1040941130, -340805780, 672664833, 1067690500, 481086445, -547826269, -1073070038, -611738163, 412022958,
   1056972071, 730145937, -267973005, -1019718801, -833939835, 118559570, 962055853, 921042421, 33226835, -885137350,
   -989710338, -184348205, 790502817, 1038569195, 331779845, -680046365, -1066641083, -472570908, 555978780, 1073364142,
   603903462, -420783276, -1058603810, -723148883, 277165792, 1022655516, 827920475, -128000833, -966238765, -916121233]

/-- COS_R[300..359]. -/
def cosR300 : List Int :=
  [-23726064, 890482739, 985985818, 174978084, -796903694, -1036115891, -322727916, 687374617, 1065508096, 464018346,
   -564087732, -1073574150, -596021446, 429510627, 1060152610, 716095173, -286336864, -1025512109, -821836250, 137432067,
   970345975, 911128269, 14223434, -895758360, -982184050, -165594253, 803242136, 1033581410, 313650702, -694649015,
   -1064291631, -455429430, 572152489, 1073700048, 588092734, -438204327, -1061618351, -708985359, 295485502, 1028288355,
   815687637, -146852533, -974377162, -906063921, -4719690, 900963802, 978305330, 156197449, -809517646, -1030965951,
   -304548915, 701868989, 1062991781, 446804832, -580172419, -1073741824, -580117947, 446863695, 1063000916, 701819998]

/-- COS_R[0..359] (43_circle_rom.md R211). -/
def cosR : List Int := cosR000 ++ cosR060 ++ cosR120 ++ cosR180 ++ cosR240 ++ cosR300

/-- SIN_R[0..59]. -/
def sinR000 : List Int :=
  [0, 903522590, 976350678, 151526455, -812610492, -1029637100, -300020107, 705433989, 1062315328, 442508854,
   -584138220, -1073731308, -576140784, 451150921, 1063656549, 698241252, -309133832, -1032292697, -806366416, 160929428,
   980267499, 898352151, -9504021, -908622240, -972357362, -142111610, 818790902, 1026900834, 290882875, -712571457,
   -1060890878, -433832118, 592089891, 1073647185, 568098208, -459757641, -1064914435, -690993809, 318223338, 1034867416,
   800059164, -170319794, -984107519, -893111329, 19007297, 913650702, 968287865, 132685630, -824907161, -1024084113,
   -281722854, 719653098, 1059383310, 425121393, -599995173, -1073478943, -560011124, 468328340, 1066088888, 683692229]

/-- SIN_R[60..119]. -/
def sinR060 : List Int :=
  [-327287912, -1037361057, -793689229, 179696815, 987870436, 887800534, -28509085, -918607583, -964142506, -123249255,
   830958792, 1021187158, 272540761, -726678355, -1057792743, -416377361, 607853447, 1073226598, 551880165, -476862347,
   -1067179816, -676337084, 336326844, 1039773423, 787257112, -189059757, -991555957, -882420183, 38008638, 923492493,
   959921608, 113803224, -836945319, -1018210196, -263337314, 733646680, 1056119300, 407600706, -615664097, -1072890169,
   -543705967, 485358993, 1068187134, 668928949, -345339426, -1042104326, -780763314, 198407887, 995163793, 876970696,
   -47505214, -928305049, -955625504, -104348277, 842866274, 1015153460, 254113236, -740557525, -1054363113, -398792117]

/-- SIN_R[120..179]. -/
def sinR120 : List Int :=
  [623426512, 1072469681, 535489172, -493817613, -1069110761, -661468406, 354324951, 1044353582, 774208346, -207740473,
   -998693659, -871452501, 56998068, 933044876, 951254528, 94885154, -848721193, -1012017190, -244869249, 747410350,
   1052524320, 389952284, -631140083, -1071965169, -527230422, 502237543, 1069950628, 653956039, -363282716, -1046521017,
   -767592721, 217056782, 1002145282, 865866030, -66486456, -937711601, -946809025, -85414598, 854509617, 1008801630,
   235606077, -754204617, -1050603064, -381081900, 638804206, 1071376671, 518930365, -510618125, -1070706666, -646392436,
   372212019, 1048606460, 760916958, -226356086, -1005518388, -860211721, 75969635, 942304859, 942289342, 75937349]

/-- SIN_R[180..239]. -/
def sinR180 : List Int :=
  [-860231092, -1005507034, -226324446, 760939794, 1048599497, 372181658, -646418281, -1070704233, -510589652, 518958701,
   1071378817, 638778190, -381112160, -1050609747, -754181578, 235637655, 1008812716, 854490017, -85446862, -946824291,
   -937695833, -66454151, 865885171, 1002133660, 217025083, -767615354, -1046513775, -363252257, 653981710, 1069947909,
   502208935, -527258618, -1071967029, -631113897, 389982441, 1052530722, 747387111, -244900763, -1012028005, -848701366,
   94917395, 951269541, 933028858, 56965746, -871471410, -998681771, -207708717, 774230773, 1044346061, 354294397,
   -661493902, -1069107758, -493788872, 535517226, 1072471256, 623400159, -398822169, -1054369234, -740534088, 254144684]

/-- SIN_R[240..299]. -/
def sinR240 : List Int :=
  [1015164005, 842846222, -104380491, -955640262, -928288783, -47472878, 876989372, 995151638, 198376077, -780785534,
   -1042096526, -345308778, 668954268, 1068183845, 485330121, -543733878, -1072891457, -615637579, 407630650, 1056125139,
   733623046, -263368693, -1018220470, -836925043, 113835409, 959936111, 923475979, 37976291, -882438624, -991543538,
   -189027896, 787279122, 1039765345, 336296106, -676362223, -1067176243, -476833347, 551907929, 1073227600, 607826765,
   -416407195, -1057798300, -726654527, 272572068, 1021197160, 830938293, -123281409, -964156751, -918590823, -28476729,
   887818739, 987857753, 179664904, -793711029, -1037352702, -327257085, 683717187, 1066085030, 468299213, -560038740]

/-- SIN_R[300..359]. -/
def sinR300 : List Int :=
  [-1073479659, -599968330, 425151115, 1059388585, 719629076, -281754087, -1024093842, -824886441, 132717749, 968301853,
   913633699, 18974935, -893129296, -984094572, -170287836, 800080751, 1034858785, 318192425, -691018583, -1064910293,
   -459728390, 568125674, 1073647614, 592062889, -433861726, -1060895870, -712547244, 290914032, 1026910289, 818769962,
   -142143692, -972371091, -908604994, -9471655, 898369879, 980254290, 160897427, -806387788, -1032283790, -309102835,
   698265840, 1063652123, 451121549, -576168097, -1073731451, -584111061, 442538345, 1062320037, 705409587, -300051185,
   -1029646281, -812589335, 151558498, 976364147, 903505102, -32367, -903540078, -976337208, -151494411, 812631648]

/-- SIN_R[0..359] (43_circle_rom.md R211). -/
def sinR : List Int := sinR000 ++ sinR060 ++ sinR120 ++ sinR180 ++ sinR240 ++ sinR300

/-- COS_D[0..59]. -/
def cosD000 : List Int :=
  [1073741824, 1073578288, 1073087729, 1072270298, 1071126243, 1069655912, 1067859754, 1065738315, 1063292242, 1060522280,
   1057429273, 1054014162, 1050277989, 1046221891, 1041847103, 1037154959, 1032146887, 1026824413, 1021189159, 1015242840,
   1008987269, 1002424350, 995556083, 988384560, 980911966, 973140576, 965072759, 956710970, 948057759, 939115760,
   929887697, 920376381, 910584710, 900515665, 890172315, 879557810, 868675383, 857528349, 846120104, 834454122,
   822533958, 810363241, 797945680, 785285058, 772385229, 759250125, 745883746, 732290163, 718473518, 704438018,
   690187940, 675727625, 661061475, 646193961, 631129609, 615873009, 600428808, 584801711, 568996477, 553017922]

/-- COS_D[60..119]. -/
def cosD060 : List Int :=
  [536870912, 520560366, 504091252, 487468587, 470697435, 453782903, 436730145, 419544355, 402230767, 384794656,
   367241333, 349576144, 331804471, 313931728, 295963357, 277904834, 259761657, 241539355, 223243478, 204879599,
   186453311, 167970228, 149435979, 130856211, 112236583, 93582766, 74900443, 56195305, 37473049, 18739379,
   0, -18739379, -37473049, -56195305, -74900443, -93582766, -112236583, -130856211, -149435979, -167970228,
   -186453311, -204879599, -223243478, -241539355, -259761657, -277904834, -295963357, -313931728, -331804471, -349576144,
   -367241333, -384794656, -402230767, -419544355, -436730145, -453782903, -470697435, -487468587, -504091252, -520560366]

/-- COS_D[120..179]. -/
def cosD120 : List Int :=
  [-536870912, -553017922, -568996477, -584801711, -600428808, -615873009, -631129609, -646193961, -661061475, -675727625,
   -690187940, -704438018, -718473518, -732290163, -745883746, -759250125, -772385229, -785285058, -797945680, -810363241,
   -822533958, -834454122, -846120104, -857528349, -868675383, -879557810, -890172315, -900515665, -910584710, -920376381,
   -929887697, -939115760, -948057759, -956710970, -965072759, -973140576, -980911966, -988384560, -995556083, -1002424350,
   -1008987269, -1015242840, -1021189159, -1026824413, -1032146887, -1037154959, -1041847103, -1046221891, -1050277989, -1054014162,
   -1057429273, -1060522280, -1063292242, -1065738315, -1067859754, -1069655912, -1071126243, -1072270298, -1073087729, -1073578288]

/-- COS_D[180..239]. -/
def cosD180 : List Int :=
  [-1073741824, -1073578288, -1073087729, -1072270298, -1071126243, -1069655912, -1067859754, -1065738315, -1063292242, -1060522280,
   -1057429273, -1054014162, -1050277989, -1046221891, -1041847103, -1037154959, -1032146887, -1026824413, -1021189159, -1015242840,
   -1008987269, -1002424350, -995556083, -988384560, -980911966, -973140576, -965072759, -956710970, -948057759, -939115760,
   -929887697, -920376381, -910584710, -900515665, -890172315, -879557810, -868675383, -857528349, -846120104, -834454122,
   -822533958, -810363241, -797945680, -785285058, -772385229, -759250125, -745883746, -732290163, -718473518, -704438018,
   -690187940, -675727625, -661061475, -646193961, -631129609, -615873009, -600428808, -584801711, -568996477, -553017922]

/-- COS_D[240..299]. -/
def cosD240 : List Int :=
  [-536870912, -520560366, -504091252, -487468587, -470697435, -453782903, -436730145, -419544355, -402230767, -384794656,
   -367241333, -349576144, -331804471, -313931728, -295963357, -277904834, -259761657, -241539355, -223243478, -204879599,
   -186453311, -167970228, -149435979, -130856211, -112236583, -93582766, -74900443, -56195305, -37473049, -18739379,
   0, 18739379, 37473049, 56195305, 74900443, 93582766, 112236583, 130856211, 149435979, 167970228,
   186453311, 204879599, 223243478, 241539355, 259761657, 277904834, 295963357, 313931728, 331804471, 349576144,
   367241333, 384794656, 402230767, 419544355, 436730145, 453782903, 470697435, 487468587, 504091252, 520560366]

/-- COS_D[300..359]. -/
def cosD300 : List Int :=
  [536870912, 553017922, 568996477, 584801711, 600428808, 615873009, 631129609, 646193961, 661061475, 675727625,
   690187940, 704438018, 718473518, 732290163, 745883746, 759250125, 772385229, 785285058, 797945680, 810363241,
   822533958, 834454122, 846120104, 857528349, 868675383, 879557810, 890172315, 900515665, 910584710, 920376381,
   929887697, 939115760, 948057759, 956710970, 965072759, 973140576, 980911966, 988384560, 995556083, 1002424350,
   1008987269, 1015242840, 1021189159, 1026824413, 1032146887, 1037154959, 1041847103, 1046221891, 1050277989, 1054014162,
   1057429273, 1060522280, 1063292242, 1065738315, 1067859754, 1069655912, 1071126243, 1072270298, 1073087729, 1073578288]

/-- COS_D[0..359] (43_circle_rom.md R211). -/
def cosD : List Int := cosD000 ++ cosD060 ++ cosD120 ++ cosD180 ++ cosD240 ++ cosD300

/-- SIN_D[0..59]. -/
def sinD000 : List Int :=
  [0, 18739379, 37473049, 56195305, 74900443, 93582766, 112236583, 130856211, 149435979, 167970228,
   186453311, 204879599, 223243478, 241539355, 259761657, 277904834, 295963357, 313931728, 331804471, 349576144,
   367241333, 384794656, 402230767, 419544355, 436730145, 453782903, 470697435, 487468587, 504091252, 520560366,
   536870912, 553017922, 568996477, 584801711, 600428808, 615873009, 631129609, 646193961, 661061475, 675727625,
   690187940, 704438018, 718473518, 732290163, 745883746, 759250125, 772385229, 785285058, 797945680, 810363241,
   822533958, 834454122, 846120104, 857528349, 868675383, 879557810, 890172315, 900515665, 910584710, 920376381]

/-- SIN_D[60..119]. -/
def sinD060 : List Int :=
  [929887697, 939115760, 948057759, 956710970, 965072759, 973140576, 980911966, 988384560, 995556083, 1002424350,
   1008987269, 1015242840, 1021189159, 1026824413, 1032146887, 1037154959, 1041847103, 1046221891, 1050277989, 1054014162,
   1057429273, 1060522280, 1063292242, 1065738315, 1067859754, 1069655912, 1071126243, 1072270298, 1073087729, 1073578288,
   1073741824, 1073578288, 1073087729, 1072270298, 1071126243, 1069655912, 1067859754, 1065738315, 1063292242, 1060522280,
   1057429273, 1054014162, 1050277989, 1046221891, 1041847103, 1037154959, 1032146887, 1026824413, 1021189159, 1015242840,
   1008987269, 1002424350, 995556083, 988384560, 980911966, 973140576, 965072759, 956710970, 948057759, 939115760]

/-- SIN_D[120..179]. -/
def sinD120 : List Int :=
  [929887697, 920376381, 910584710, 900515665, 890172315, 879557810, 868675383, 857528349, 846120104, 834454122,
   822533958, 810363241, 797945680, 785285058, 772385229, 759250125, 745883746, 732290163, 718473518, 704438018,
   690187940, 675727625, 661061475, 646193961, 631129609, 615873009, 600428808, 584801711, 568996477, 553017922,
   536870912, 520560366, 504091252, 487468587, 470697435, 453782903, 436730145, 419544355, 402230767, 384794656,
   367241333, 349576144, 331804471, 313931728, 295963357, 277904834, 259761657, 241539355, 223243478, 204879599,
   186453311, 167970228, 149435979, 130856211, 112236583, 93582766, 74900443, 56195305, 37473049, 18739379]

/-- SIN_D[180..239]. -/
def sinD180 : List Int :=
  [0, -18739379, -37473049, -56195305, -74900443, -93582766, -112236583, -130856211, -149435979, -167970228,
   -186453311, -204879599, -223243478, -241539355, -259761657, -277904834, -295963357, -313931728, -331804471, -349576144,
   -367241333, -384794656, -402230767, -419544355, -436730145, -453782903, -470697435, -487468587, -504091252, -520560366,
   -536870912, -553017922, -568996477, -584801711, -600428808, -615873009, -631129609, -646193961, -661061475, -675727625,
   -690187940, -704438018, -718473518, -732290163, -745883746, -759250125, -772385229, -785285058, -797945680, -810363241,
   -822533958, -834454122, -846120104, -857528349, -868675383, -879557810, -890172315, -900515665, -910584710, -920376381]

/-- SIN_D[240..299]. -/
def sinD240 : List Int :=
  [-929887697, -939115760, -948057759, -956710970, -965072759, -973140576, -980911966, -988384560, -995556083, -1002424350,
   -1008987269, -1015242840, -1021189159, -1026824413, -1032146887, -1037154959, -1041847103, -1046221891, -1050277989, -1054014162,
   -1057429273, -1060522280, -1063292242, -1065738315, -1067859754, -1069655912, -1071126243, -1072270298, -1073087729, -1073578288,
   -1073741824, -1073578288, -1073087729, -1072270298, -1071126243, -1069655912, -1067859754, -1065738315, -1063292242, -1060522280,
   -1057429273, -1054014162, -1050277989, -1046221891, -1041847103, -1037154959, -1032146887, -1026824413, -1021189159, -1015242840,
   -1008987269, -1002424350, -995556083, -988384560, -980911966, -973140576, -965072759, -956710970, -948057759, -939115760]

/-- SIN_D[300..359]. -/
def sinD300 : List Int :=
  [-929887697, -920376381, -910584710, -900515665, -890172315, -879557810, -868675383, -857528349, -846120104, -834454122,
   -822533958, -810363241, -797945680, -785285058, -772385229, -759250125, -745883746, -732290163, -718473518, -704438018,
   -690187940, -675727625, -661061475, -646193961, -631129609, -615873009, -600428808, -584801711, -568996477, -553017922,
   -536870912, -520560366, -504091252, -487468587, -470697435, -453782903, -436730145, -419544355, -402230767, -384794656,
   -367241333, -349576144, -331804471, -313931728, -295963357, -277904834, -259761657, -241539355, -223243478, -204879599,
   -186453311, -167970228, -149435979, -130856211, -112236583, -93582766, -74900443, -56195305, -37473049, -18739379]

/-- SIN_D[0..359] (43_circle_rom.md R211). -/
def sinD : List Int := sinD000 ++ sinD060 ++ sinD120 ++ sinD180 ++ sinD240 ++ sinD300

end Sys2Proof.Machine
end

