-- ==== Sys2Proof/Machine/Circle.lean ====
section
/-! DEFINITION. The circle sampler and CIRCLE (42_circle.md R190 to R195). -/

namespace Sys2Proof.Machine

/-- `COS[n]` for the angle unit (43_circle_rom.md R210). -/
def cosRom (u : Config.AngleUnit) (n : Nat) : Int :=
  match u with
  | .radiansAsGiven => cosR.getD n 0
  | .degrees => cosD.getD n 0

/-- `SIN[n]` for the angle unit (43_circle_rom.md R210). -/
def sinRom (u : Config.AngleUnit) (n : Nat) : Int :=
  match u with
  | .radiansAsGiven => sinR.getD n 0
  | .degrees => sinD.getD n 0

/-- One sample of `CircleDraw`: sample number n on the radius rn / rd around (x, y) (42_circle.md R192). -/
def circlePoint (u : Config.AngleUnit) (x y : Int) (rn rd n : Nat) : Point :=
  (x + Int.fdiv (cosRom u n * rn) (2 ^ Config.trigFracBits * rd),
   y + Int.fdiv (sinRom u n * rn) (2 ^ Config.trigFracBits * rd))

/-- The points of `CircleDraw`, in order: `fdiv(360, step)` samples n = k * step (42_circle.md R190, R192). -/
def circlePixels (u : Config.AngleUnit) (x y : Int) (rn rd step : Nat) : List Point :=
  (List.range (360 / step)).map (fun k => circlePoint u x y rn rd (k * step))

/-- CIRCLE: UNSUP when step = 0, else `CircleDraw(x, y, r, 1, c, step)`; FILL and IGN have no effect (R193). -/
def execCircle (_filled _ign : Bool) (x y r step : BitVec 16) (color : BitVec 32) (s : State) :
    Host.Outcome State Fault Refusal :=
  if size step = 0 then .next (rejectUnsupported s)
  else .next (drawAndRespond (colour color) true
    (circlePixels s.params.angleUnit (coord x) (coord y) (size r) 1 (size step)) s)

end Sys2Proof.Machine
end

