-- ==== Sys2Proof/Machine/Animation.lean ====
section
/-! DEFINITION. The animation slot, the Splash variant, RUN_ANIM, STOP_ANIM, IS_ANIM_RUNNING and TICK
(46_animation.md R250 to R266). -/

namespace Sys2Proof.Machine

/-- `max(sy, 11 - sy, sx, 11 - sx) + 2` (46_animation.md R252). -/
def splashMaxRadius (sx sy : Int) : Int := max (max sy (11 - sy)) (max sx (11 - sx)) + 2

/-- The angle step of the Splash circle (46_animation.md R254). -/
def splashStep : Nat := 2

/-- Milliseconds since activation: `(NOW - START) mod 2^64` (46_animation.md R259, R265). -/
def elapsed (s : State) : Nat := (s.now - s.slot.start).toNat

/-- The points of the Splash ring of radius `MAXR * el / DURATION` (46_animation.md R253). A Running slot
has DURATION at least 1 in every state a run reaches (R42; DESIGN CHOICE, log 13). -/
def splashPixels (u : Config.AngleUnit) (sl : Slot) (el : Nat) : List Point :=
  circlePixels u (centre sl.sx) (centre sl.sy) (sl.maxr.toNat * el) (millis sl.duration) splashStep

/-- The pixels after `SplashRun(el)`: cleared first unless SFILL, then the ring, out-of-range suppressed
(46_animation.md R253). -/
def splashFrame (u : Config.AngleUnit) (sl : Slot) (el : Nat) (pix : Pix) : Pix :=
  (paint sl.scolor true (splashPixels u sl el) { pix := if sl.sfill then pix else solid 0#24, oor := false }).pix

/-- `done` of `SplashRun(el)`: progress > 1 (46_animation.md R253). -/
def splashFinished (sl : Slot) (el : Nat) : Bool := decide (el > millis sl.duration)

/-- The retire condition: finished and `el > DURATION + KEEP` (46_animation.md R260). -/
def retires (sl : Slot) (el : Nat) : Bool :=
  splashFinished sl el && decide (el > millis sl.duration + millis sl.keep)

/-- TICK's DATA: `{29'b0, RETIRED, FINISHED, RAN}` (46_animation.md R259). -/
def tickData (ret fin : Bool) : BitVec 32 := (0#29 ++ BitVec.ofBool ret ++ BitVec.ofBool fin ++ 1#1)

/-- RUN_ANIM: UNSUP when dur = 0, else load (or replace) the slot (R256). -/
def execRunAnim (kind : BitVec 4) (filled : Bool) (sx sy : BitVec 8) (dur keep color : BitVec 32) (s : State) :
    Host.Outcome State Fault Refusal :=
  if millis dur = 0 then .next (rejectUnsupported s)
  else .next (respond (okResponse 0) { s with slot := {
    active := true, kind := kind, sx := sx, sy := sy, scolor := colour color, sfill := filled,
    maxr := BitVec.ofInt 8 (splashMaxRadius (centre sx) (centre sy)), duration := dur, keep := keep, start := s.now } })

/-- STOP_ANIM: empty the slot; PIX keeps its pixels (R257). -/
def execStopAnim (s : State) : Host.Outcome State Fault Refusal := .next (respond (okResponse 0) (release s))

/-- IS_ANIM_RUNNING: DATA is ACTIVE (R258). -/
def execIsAnimRunning (s : State) : Host.Outcome State Fault Refusal :=
  .next (respond (okResponse ((BitVec.ofBool s.slot.active).setWidth 32)) s)

/-- TICK: nothing when Idle; else draw the frame of the elapsed time, and release the slot when it retires (R259). -/
def execTick (s : State) : Host.Outcome State Fault Refusal :=
  if s.slot.active then
    let el := elapsed s
    let ret := retires s.slot el
    let drawn := { s with pix := splashFrame s.params.angleUnit s.slot el s.pix }
    .next (respond (okResponse (tickData ret (splashFinished s.slot el))) (if ret then release drawn else drawn))
  else .next (respond (okResponse 0) s)

end Sys2Proof.Machine
end

