-- ==== Sys2Proof/Machine/Control.lean ====
section
/-! DEFINITION. SET_CONTROLS, GET_CONTROLS, STATUS_STAGE, STATUS_COMMIT, GET_STATUS_LEN, CTRL_RESET
(47_control_state.md R280 to R287). -/

namespace Sys2Proof.Machine

/-- SET_CONTROLS: replace the mask and notify, even when it is unchanged (R281). -/
def execSetControls (value : BitVec 32) (s : State) : Host.Outcome State Fault Refusal :=
  .next (respond (okResponse 0) (notify { s with controls := maskOf value }))

/-- GET_CONTROLS: DATA is CONTROLS (R282). -/
def execGetControls (s : State) : Host.Outcome State Fault Refusal :=
  .next (respond (okResponse (s.controls.setWidth 32)) s)

/-- STATUS_STAGE: UNSUP when `cnt > 8` or `off + cnt > STATUS_CAP`, else the first cnt bytes go to STAGE (R283). -/
def execStatusStage (offset : BitVec 16) (count : BitVec 8) (bytes : BitVec 64) (s : State) :
    Host.Outcome State Fault Refusal :=
  if byteCount count > 8 ∨ size offset + byteCount count > s.params.statusCap then .next (rejectUnsupported s)
  else .next (respond (okResponse 0)
    { s with stage := Memory.writeRun s.stage (size offset) (stagedByte bytes) (byteCount count) })

/-- STATUS_COMMIT: UNSUP when `len > STATUS_CAP`, else STATUS becomes the first len staged bytes, wholesale (R284). -/
def execStatusCommit (len : BitVec 16) (s : State) : Host.Outcome State Fault Refusal :=
  if size len > s.params.statusCap then .next (rejectUnsupported s)
  else .next (respond (okResponse 0)
    (notify { s with status := Memory.takeBelow s.stage (size len), statusLen := len }))

/-- GET_STATUS_LEN: DATA is STATUS_LEN (R285). -/
def execGetStatusLen (s : State) : Host.Outcome State Fault Refusal :=
  .next (respond (okResponse (s.statusLen.setWidth 32)) s)

/-- CTRL_RESET: empty status, CONTROLS = 0, one notification; slot, PIX, TPS, NOW and STAGE untouched (R286). -/
def execCtrlReset (s : State) : Host.Outcome State Fault Refusal :=
  .next (respond (okResponse 0) (notify { s with status := [], statusLen := 0#16, controls := 0#8 }))

end Sys2Proof.Machine
end

