-- ==== Sys2Proof/Machine/Glyph.lean ====
section
/-! DEFINITION. The 7-segment glyphs, DIGIT and NUMBER (44_glyph.md R215 to R224). -/

namespace Sys2Proof.Machine

/-- The cells (u, v) of a segment, 0 = a to 6 = g (44_glyph.md R216). -/
def segmentCells : Nat → List (Nat × Nat)
  | 0 => [(0, 0), (1, 0), (2, 0)]
  | 1 => [(2, 0), (2, 1), (2, 2)]
  | 2 => [(2, 2), (2, 3), (2, 4)]
  | 3 => [(0, 4), (1, 4), (2, 4)]
  | 4 => [(0, 2), (0, 3), (0, 4)]
  | 5 => [(0, 0), (0, 1), (0, 2)]
  | 6 => [(0, 2), (1, 2), (2, 2)]
  | _ => []

/-- The segments a digit lights, ascending (44_glyph.md R217). -/
def digitSegments : Nat → List Nat
  | 0 => [0, 1, 2, 3, 4, 5]
  | 1 => [1, 2]
  | 2 => [0, 1, 3, 4, 6]
  | 3 => [0, 1, 2, 3, 6]
  | 4 => [1, 2, 5, 6]
  | 5 => [0, 2, 3, 5, 6]
  | 6 => [0, 2, 3, 4, 5, 6]
  | 7 => [0, 1, 2]
  | 8 => [0, 1, 2, 3, 4, 5, 6]
  | 9 => [0, 1, 2, 3, 5, 6]
  | _ => []

/-- The cells (u, v) a digit lights, in the order `GlyphDraw` writes them (44_glyph.md R218). -/
def digitCells (d : Nat) : List (Nat × Nat) := (digitSegments d).flatMap segmentCells

/-- The points of `GlyphDraw(x, y, d, …)` (44_glyph.md R218). -/
def glyphPixels (x y : Int) (d : Nat) : List Point := (digitCells d).map (fun cell => (x + cell.1, y + cell.2))

/-- The decimal digits of n, least significant first, with at most `fuel + 1` of them. -/
def digitsLoop : Nat → Nat → List Nat
  | 0, n => [n % 10]
  | fuel + 1, n => if n ≤ 9 then [n] else (n % 10) :: digitsLoop fuel (n / 10)

/-- The decimal digits of n without leading zeros, least significant first (44_glyph.md R220). A number has at most n + 1
digits, so the bound is never reached. -/
def decimalDigits (n : Nat) : List Nat := digitsLoop n n

/-- The width of a number layout: `W = 3 * dcount + gap * (dcount - 1)` (44_glyph.md R221). -/
def layoutWidth (dcount gap : Nat) : Nat := 3 * dcount + gap * (dcount - 1)

/-- The points of NUMBER's glyphs: digit i, least significant first, at `x + W - 3 - i * (3 + gap)` (44_glyph.md R223). -/
def numberPixels (x y : Int) (n gap : Nat) : List Point :=
  let digits := decimalDigits n
  let width := layoutWidth digits.length gap
  (digits.zipIdx).flatMap (fun (d, i) => glyphPixels (x + width - 3 - (i * (3 + gap) : Nat)) y d)

/-- DIGIT: UNSUP when n > 9, else the glyph (R219). -/
def execDigit (ign : Bool) (x y n : BitVec 16) (color : BitVec 32) (s : State) : Host.Outcome State Fault Refusal :=
  if size n > 9 then .next (rejectUnsupported s)
  else .next (drawAndRespond (colour color) ign (glyphPixels (coord x) (coord y) (size n)) s)

/-- NUMBER: UNSUP when `x + W > 12`, else one glyph per digit (R222, R224). -/
def execNumber (ign : Bool) (x y n gap : BitVec 16) (color : BitVec 32) (s : State) :
    Host.Outcome State Fault Refusal :=
  if coord x + layoutWidth (decimalDigits (size n)).length (size gap) > 12 then .next (rejectUnsupported s)
  else .next (drawAndRespond (colour color) ign (numberPixels (coord x) (coord y) (size n) (size gap)) s)

end Sys2Proof.Machine
end

