-- ==== Sys2Proof/Machine/LineRect.lean ====
section
/-! DEFINITION. LINE and RECT (41_line_rect.md R170 to R176). -/

namespace Sys2Proof.Machine

/-- The loop of `LinePixels` (41_line_rect.md R170), on unbounded integers. The first argument bounds the number of
turns; `linePixels` gives it one that the loop never reaches (DEDUCED, log 12). -/
def lineLoop (dx dy sx sy x2 y2 : Int) : Nat → Int → Int → Int → List Point
  | 0, _, _, _ => []
  | fuel + 1, x, y, err =>
    (x, y) ::
      if x = x2 ∧ y = y2 then []
      else
        let e2 := 2 * err
        let stepX : Bool := e2 ≥ dy
        let stepY : Bool := e2 ≤ dx
        lineLoop dx dy sx sy x2 y2 fuel
          (if stepX then x + sx else x)
          (if stepY then y + sy else y)
          (err + (if stepX then dy else 0) + (if stepY then dx else 0))

/-- `LinePixels(x1, y1, x2, y2)` (41_line_rect.md R170): the points of the line, in order. -/
def linePixels (x1 y1 x2 y2 : Int) : List Point :=
  let dx : Int := (x2 - x1).natAbs
  let dy : Int := -((y2 - y1).natAbs : Int)
  let sx : Int := if x1 < x2 then 1 else -1
  let sy : Int := if y1 < y2 then 1 else -1
  lineLoop dx dy sx sy x2 y2 ((x2 - x1).natAbs + (y2 - y1).natAbs + 1) x1 y1 (dx + dy)

/-- The points `RectDraw` writes, in its order (41_line_rect.md R174), for w ≥ 1 and h ≥ 1: four border edges, then the fill
runs. RECT itself draws the set of cells these writes amount to (`rectCells`), as R176 allows; DEDUCED, log 14. -/
def rectPixels (x y : Int) (w h : Nat) (filled : Bool) : List Point :=
  let x2 : Int := x + w - 1
  let y2 : Int := y + h - 1
  linePixels x y x2 y ++ linePixels x y2 x2 y2 ++ linePixels x y x y2 ++ linePixels x2 y x2 y2 ++
    if filled then
      (List.range (w - 1)).flatMap (fun (i : Nat) => linePixels (x + i) y (x + i) y2) ++
        (List.range (h - 1)).flatMap (fun (j : Nat) => linePixels x (y + j) x2 (y + j))
    else []

/-- The 144 points of the grid. -/
def gridPoints : List Point :=
  (List.range 12).flatMap (fun (y : Nat) => (List.range 12).map (fun (x : Nat) => ((x : Int), (y : Int))))

/-- Whether a point lies in the box of `rect(x, y, w, h)` (41_line_rect.md R173). -/
def inBox (x y : Int) (w h : Nat) (p : Point) : Bool :=
  decide (x ≤ p.1) && decide (p.1 ≤ x + w - 1) && decide (y ≤ p.2) && decide (p.2 ≤ y + h - 1)

/-- Whether a point of the box lies on its border (41_line_rect.md R175). -/
def onEdge (x y : Int) (w h : Nat) (p : Point) : Bool :=
  p.1 == x || p.1 == x + w - 1 || p.2 == y || p.2 == y + h - 1

/-- The InGrid cells RECT writes: "the border cells when filled = 0 and all box cells when filled = 1" (41_line_rect.md R176). -/
def rectCells (x y : Int) (w h : Nat) (filled : Bool) : List Point :=
  gridPoints.filter (fun p => inBox x y w h p && (filled || onEdge x y w h p))

/-- Whether some cell of the box is out of the grid: "x < 0, x2 > 11, y < 0 or y2 > 11" (41_line_rect.md R176). -/
def boxLeavesGrid (x y : Int) (w h : Nat) : Bool :=
  decide (x < 0) || decide (x + w - 1 > 11) || decide (y < 0) || decide (y + h - 1 > 11)

/-- `RectDraw` as a write of a set of cells (41_line_rect.md R174, R176). -/
def drawRect (filled ign : Bool) (x y : Int) (w h : Nat) (c : Colour) (s : State) : State :=
  respond (drawResponse (boxLeavesGrid x y w h && !ign))
    { s with pix := (paint c true (rectCells x y w h filled) { pix := s.pix, oor := false }).pix }

/-- LINE: `PixWrite` at every point of the line (R172). -/
def execLine (ign : Bool) (x1 y1 x2 y2 : BitVec 16) (color : BitVec 32) (s : State) :
    Host.Outcome State Fault Refusal :=
  .next (drawAndRespond (colour color) ign (linePixels (coord x1) (coord y1) (coord x2) (coord y2)) s)

/-- RECT: UNSUP when w = 0 or h = 0, else `RectDraw` (R175). -/
def execRect (filled ign : Bool) (x y w h : BitVec 16) (color : BitVec 32) (s : State) :
    Host.Outcome State Fault Refusal :=
  if size w = 0 ∨ size h = 0 then .next (rejectUnsupported s)
  else .next (drawRect filled ign (coord x) (coord y) (size w) (size h) (colour color) s)

end Sys2Proof.Machine
end

