-- ==== Sys2Proof/Machine/Pixel.lean ====
section
/-! DEFINITION. SET, OFF, GET_PIXEL, FILL, CLEAR (40_pixel.md R145 to R149). -/

namespace Sys2Proof.Machine

/-- SET: `PixWrite(x, y, c, ign)` (R145). -/
def execSet (ign : Bool) (x y : BitVec 16) (color : BitVec 32) (s : State) : Host.Outcome State Fault Refusal :=
  .next (drawAndRespond (colour color) ign [(coord x, coord y)] s)

/-- OFF: `PixWrite(x, y, 0x000000, ign)` (R146). -/
def execOff (ign : Bool) (x y : BitVec 16) (s : State) : Host.Outcome State Fault Refusal :=
  .next (drawAndRespond 0#24 ign [(coord x, coord y)] s)

/-- GET_PIXEL: DATA is the cell, 0 and OOR out of the grid (R147). -/
def execGetPixel (ign : Bool) (x y : BitVec 16) (s : State) : Host.Outcome State Fault Refusal :=
  .next (respond
    { data := (pixRead s.pix (coord x) (coord y)).setWidth 32, oor := raisesOor (coord x) (coord y) ign,
      unsup := false, ill := false } s)

/-- FILL: every cell takes the colour (R148). -/
def execFill (color : BitVec 32) (s : State) : Host.Outcome State Fault Refusal :=
  .next (respond (okResponse 0) { s with pix := solid (colour color) })

/-- CLEAR: every cell off (R149). -/
def execClear (s : State) : Host.Outcome State Fault Refusal :=
  .next (respond (okResponse 0) { s with pix := solid 0#24 })

end Sys2Proof.Machine
end

