-- ==== Sys2Proof/Machine/RateDiag.lean ====
section
/-! DEFINITION. SET_TPS, GET_TPS, NOP, CLEAR_DIAG (45_rate_diag.md R235 to R241). -/

namespace Sys2Proof.Machine

/-- `min(max(v, 0), 51200)`: the clamp to [0, 200] ticks per second (45_rate_diag.md R236). -/
def clampTps (v : Int) : Int := min (max v 0) 51200

/-- NOP: no effect but its response (R240). -/
def execNop (s : State) : Host.Outcome State Fault Refusal := .next (respond (okResponse 0) s)

/-- SET_TPS: TPS takes the clamped rate; clamping is no diagnostic (R236). -/
def execSetTps (value : BitVec 32) (s : State) : Host.Outcome State Fault Refusal :=
  .next (respond (okResponse 0) { s with tps := BitVec.ofInt 16 (clampTps (rate value)) })

/-- GET_TPS: DATA is TPS (R237). -/
def execGetTps (s : State) : Host.Outcome State Fault Refusal := .next (respond (okResponse (s.tps.setWidth 32)) s)

/-- CLEAR_DIAG: DATA is the old DIAG, DIAG becomes 0 and is not ORed with the flags (R241). -/
def execClearDiag (s : State) : Host.Outcome State Fault Refusal :=
  .next (complete (okResponse (s.diag.setWidth 32)) { s with diag := 0#3 })

end Sys2Proof.Machine
end

