-- ==== Sys2Proof/Machine/Dispatch.lean ====
section
/-! DEFINITION. The meaning of every command, one arm per constructor. -/

namespace Sys2Proof.Machine

/-- What the ENGINE does with a decoded command. -/
def exec (i : Instr) (s : State) : Host.Outcome State Fault Refusal :=
  match i with
  | .nop => Sys2Proof.Machine.execNop s
  | .set ign x y color => Sys2Proof.Machine.execSet ign x y color s
  | .off ign x y => Sys2Proof.Machine.execOff ign x y s
  | .fill color => Sys2Proof.Machine.execFill color s
  | .clear => Sys2Proof.Machine.execClear s
  | .line ign x1 y1 x2 y2 color => Sys2Proof.Machine.execLine ign x1 y1 x2 y2 color s
  | .rect filled ign x y w h color => Sys2Proof.Machine.execRect filled ign x y w h color s
  | .circle filled ign x y r step color => Sys2Proof.Machine.execCircle filled ign x y r step color s
  | .digit ign x y n color => Sys2Proof.Machine.execDigit ign x y n color s
  | .number ign x y n gap color => Sys2Proof.Machine.execNumber ign x y n gap color s
  | .getPixel ign x y => Sys2Proof.Machine.execGetPixel ign x y s
  | .setTps value => Sys2Proof.Machine.execSetTps value s
  | .getTps => Sys2Proof.Machine.execGetTps s
  | .clearDiag => Sys2Proof.Machine.execClearDiag s
  | .runAnim kind filled sx sy dur keep color => Sys2Proof.Machine.execRunAnim kind filled sx sy dur keep color s
  | .stopAnim => Sys2Proof.Machine.execStopAnim s
  | .isAnimRunning => Sys2Proof.Machine.execIsAnimRunning s
  | .tick => Sys2Proof.Machine.execTick s
  | .setControls value => Sys2Proof.Machine.execSetControls value s
  | .getControls => Sys2Proof.Machine.execGetControls s
  | .statusStage offset count bytes => Sys2Proof.Machine.execStatusStage offset count bytes s
  | .statusCommit len => Sys2Proof.Machine.execStatusCommit len s
  | .getStatusLen => Sys2Proof.Machine.execGetStatusLen s
  | .ctrlReset => Sys2Proof.Machine.execCtrlReset s

end Sys2Proof.Machine
end

