-- ==== Sys2Proof/Machine/ExportPort.lean ====
section
/-! DEFINITION. The export port: the map of 20_memory.md R72 and a HOST read of it (R73, R78). -/

namespace Sys2Proof.Machine

/-- Word k of the status window: four status bytes, little-endian (20_memory.md R72, R74). -/
def statusWord (status : Memory) (k : Nat) : BitVec 32 :=
  Memory.read status (4 * k + 3) ++ Memory.read status (4 * k + 2) ++ Memory.read status (4 * k + 1)
    ++ Memory.read status (4 * k)

/-- SLOT_CFG: KIND [3:0], SFILL [4], SX [15:8], SY [23:16], MAXR [31:24] (20_memory.md R72). -/
def slotConfigWord (sl : Slot) : BitVec 32 := sl.maxr ++ sl.sy ++ sl.sx ++ 0#3 ++ BitVec.ofBool sl.sfill ++ sl.kind

/-- The 32-bit value of export word `a` (20_memory.md R72). -/
def exportWord (s : State) (a : BitVec 12) : BitVec 32 :=
  let n := a.toNat
  if n < 144 then (cellAt s.pix n).setWidth 32
  else if n = 0x090 then (BitVec.ofBool s.slot.active ++ BitVec.ofBool s.busy).setWidth 32
  else if n = 0x091 then s.diag.setWidth 32
  else if n = 0x092 then s.tps.setWidth 32
  else if n = 0x093 then s.controls.setWidth 32
  else if n = 0x094 then s.statusLen.setWidth 32
  else if n = 0x095 then s.notifyCount
  else if n = 0x096 then s.now.extractLsb' 0 32
  else if n = 0x097 then s.now.extractLsb' 32 32
  else if n = 0x098 then slotConfigWord s.slot
  else if n = 0x099 then s.slot.scolor.setWidth 32
  else if n = 0x09A then s.slot.duration
  else if n = 0x09B then s.slot.keep
  else if n = 0x09C then s.slot.start.extractLsb' 0 32
  else if n = 0x09D then s.slot.start.extractLsb' 32 32
  else if 0x100 ≤ n ∧ n - 0x100 < s.params.statusCap / 4 then statusWord s.status (n - 0x100)
  else 0#32

/-- Whether an export read is unspecified: any word while reset is asserted (70_reset_and_hazards.md R330), any but
0x090 while BUSY = 1 (20_memory.md R78). -/
def exportUnspecified (s : State) (a : BitVec 12) : Bool := s.resetAsserted || (s.busy && a != 0x090#12)

/-- A HOST read of the export port: no block state changes (20_memory.md R73); an unspecified read is a free draw
(DESIGN CHOICE, log 3). -/
def exportRead (a : BitVec 12) (s : State) : State :=
  if exportUnspecified s a then
    { s with exportData := Config.freeExportWord s.freeCount, freeCount := s.freeCount + 1 }
  else { s with exportData := exportWord s a }

end Sys2Proof.Machine
end

