-- ==== Sys2Proof/Machine/Agents.lean ====
section
/-! DEFINITION. What each agent's turn does (00_scope.md R7): the HOST at the command port (70_reset_and_hazards.md R330,
R333; 20_memory.md R74), the ENGINE finishing a packet (R77, R333), the TIMEBASE (10_state.md R36), the reset input. -/

namespace Sys2Proof.Machine

/-- The ENGINE accepts a packet: BUSY becomes 1 (70_reset_and_hazards.md R333). -/
def acceptPacket (p : Packet) (s : State) : State := { s with inFlight := some p }

/-- The HOST presents a packet while BUSY = 0. While reset is asserted "the command port accepts no packet" (R330;
DESIGN CHOICE, log 10). -/
def presentPacket (p : Packet) (s : State) : State := if s.resetAsserted then s else acceptPacket p s

/-- One beat of a packet (20_memory.md R74): beat 0 carries [127:96], beat 3 [31:0], "and the packet executes only when all
four beats have arrived". -/
def takeBeat (w : BitVec 32) (s : State) : State :=
  if s.resetAsserted then s
  else match s.beats with
    | [b0, b1, b2] => acceptPacket (b0 ++ b1 ++ b2 ++ w) { s with beats := [] }
    | bs => { s with beats := bs ++ [w] }

/-- A TIMEBASE strobe: NOW + 1 modulo 2^64 (10_state.md R36); ignored while reset is asserted (R330); while BUSY = 1 it is
placed before or after the packet's step, a free choice (20_memory.md R81; DESIGN CHOICE, log 4). -/
def strobe (s : State) : State :=
  if s.resetAsserted then s
  else if s.busy then
    if Config.strobeAfterPacket s.freeCount then
      { s with heldStrobes := s.heldStrobes + 1, freeCount := s.freeCount + 1 }
    else { s with now := s.now + 1#64, freeCount := s.freeCount + 1 }
  else { s with now := s.now + 1#64 }

/-- The reset input changes level (70_reset_and_hazards.md R330). -/
def setResetInput (asserted : Bool) (s : State) : State :=
  if asserted then assertReset s else { s with resetAsserted := false }

/-- The strobes placed after the packet's step: "a strobe that arrives while BUSY = 1 is not lost" (20_memory.md R81). -/
def deliverHeldStrobes (s : State) : State :=
  { s with now := s.now + BitVec.ofNat 64 s.heldStrobes, heldStrobes := 0 }

/-- `deliverHeldStrobes` on an outcome. -/
def afterPacket : Host.Outcome State Fault Refusal → Host.Outcome State Fault Refusal
  | .next s => .next (deliverHeldStrobes s)
  | .fault r => .fault r
  | .refused r => .refused r

/-- The ENGINE executes one packet as one atomic step (20_memory.md R77): decode, then the command's rule, or the effect of
an illegal packet (30_encoding.md R113, 60_exceptions.md R303). -/
def runPacket (p : Packet) (s : State) : Host.Outcome State Fault Refusal :=
  match decode p with
  | .ok i => afterPacket (exec i s)
  | .illegal _ => afterPacket (.next (rejectIllegal s))

/-- The ENGINE's turn: it finishes the packet it accepted; with none, the block holds its state (60_exceptions.md R316). -/
def engineTurn (s : State) : Host.Outcome State Fault Refusal :=
  match s.inFlight with
  | some p => runPacket p s
  | none => .next s

/-- Whether the HOST must hold what it presents: BUSY = 1 (70_reset_and_hazards.md R333). -/
def hostHolds (t : Turn) (s : State) : Bool :=
  match t with
  | .present _ => s.busy
  | .beat _ => s.busy
  | .engine => false
  | .read _ => false
  | .write _ _ => false
  | .strobe => false
  | .resetInput _ => false

/-- One turn that is not held back. -/
def takeTurn (t : Turn) (s : State) : Host.Outcome State Fault Refusal :=
  match t with
  | .engine => engineTurn s
  | .present p => .next (presentPacket p s)
  | .beat w => .next (takeBeat w s)
  | .read a => .next (exportRead a s)
  | .write _ _ => .next s
  | .strobe => .next (strobe s)
  | .resetInput asserted => .next (setResetInput asserted s)

/-- One step over the agenda. The NOTIFY pulse of the step before is over. A HOST that must hold its packet keeps its turn
and the ENGINE moves; with no turn left the ENGINE finishes what it accepted (logs 1, 2). -/
def runAgenda (s : State) : Host.Outcome State Fault Refusal :=
  match s.agenda with
  | [] => engineTurn { s with notifyOut := false }
  | t :: rest =>
    if hostHolds t s then engineTurn { s with notifyOut := false }
    else takeTurn t { s with notifyOut := false, agenda := rest }

/-- The state in which packet `p` is accepted and the next turn is the ENGINE's. -/
def placePacket (p : Packet) (s : State) : State := { s with inFlight := some p, agenda := .engine :: s.agenda }

end Sys2Proof.Machine
end

