-- ==== Sys2Proof/Machine/Step.lean ====
section
/-! DEFINITION. One step of the machine, and where a test puts the next command. -/

namespace Sys2Proof.Machine

/-- One step: the next turn of the agenda (00_scope.md R7; DESIGN CHOICE, log 1). -/
def step (s : State) : Host.Outcome State Fault Refusal := runAgenda s

/-- `s` with the command of table word `w` accepted on the command port and the ENGINE next (DESIGN CHOICE, log 1). -/
def State.withFetchWord (s : State) (nbits w : Nat) : State := placePacket (packetOfTableWord nbits w) s

end Sys2Proof.Machine
end

