-- ==== Sys2Proof/Machine/Assembler.lean ====
section
/-! DEFINITION. The written form of packets: operand ranges and defaults, the pseudo-instructions, and one assembler line
(30_encoding.md R124, R125; 00_scope.md R13). No step of the machine uses it; it says which packets a text stands for. -/

namespace Sys2Proof.Machine

/-! ### Operand ranges -/

/-- A value for a two's complement field; none when it does not fit: "an assembly error, not a silent truncation" (R124). -/
def fitSigned (w : Nat) (v : Int) : Option (BitVec w) :=
  if -(2 ^ (w - 1) : Int) ≤ v ∧ v < 2 ^ (w - 1) then some (BitVec.ofInt w v) else none

/-- A value for an unsigned field; none when it does not fit (R124). -/
def fitUnsigned (w : Nat) (v : Int) : Option (BitVec w) :=
  if 0 ≤ v ∧ v < 2 ^ w then some (BitVec.ofInt w v) else none

/-! ### Pseudo-instructions -/

/-- `((r << 16) | (g << 8) | b) mod 2^32`, with no masking of r, g, b (R125). The spec does not say whether a component may be
negative: the model takes components from 0 up only (DESIGN CHOICE, log 20). -/
def packRgb (r g b : Nat) : BitVec 32 := BitVec.ofNat 32 ((r <<< 16) ||| (g <<< 8) ||| b)

/-- `SET_RGB x, y, r, g, b [, ign]` (R125). -/
def expandSetRgb (ign : Bool) (x y : BitVec 16) (r g b : Nat) : List Instr := [.set ign x y (packRgb r g b)]

/-- `FILL_RGB r, g, b` (R125). -/
def expandFillRgb (r g b : Nat) : List Instr := [.fill (packRgb r g b)]

/-- `BLACK` is `FILL 0` (R125). -/
def expandBlack : List Instr := [.fill 0#32]

/-- BYTES with byte i of the list in bits [8i+7:8i]; at most the first eight bytes matter (20_memory.md R74). -/
def packBytes : List Byte → BitVec 64
  | [] => 0#64
  | b :: rest => b.setWidth 64 ||| (packBytes rest <<< 8)

/-- `STATUS_STAGE offset, b0, …`: COUNT is the number of bytes given (R124). -/
def stageInstr (offset : Nat) (bytes : List Byte) : Instr :=
  .statusStage (BitVec.ofNat 16 offset) (BitVec.ofNat 8 bytes.length) (packBytes bytes)

/-- The STATUS_STAGE packets of `SET_STATUS`: eight bytes each, the last one what is left (R125). The first argument bounds
the number of packets; a string never has more of them than bytes. -/
def stageChunks : Nat → Nat → List Byte → List Instr
  | 0, _, _ => []
  | _ + 1, _, [] => []
  | fuel + 1, offset, b :: bytes =>
    stageInstr offset ((b :: bytes).take 8) :: stageChunks fuel (offset + 8) ((b :: bytes).drop 8)

/-- `SET_STATUS "s"`: stage the bytes, eight at a time, then commit their number (R125). -/
def expandSetStatus (bytes : List Byte) : List Instr :=
  stageChunks bytes.length 0 bytes ++ [.statusCommit (BitVec.ofNat 16 bytes.length)]

/-! ### Text -/

/-- The value of a digit in a base up to 16. -/
def digitValue (base : Nat) (c : Char) : Option Nat :=
  let v : Option Nat :=
    if '0' ≤ c ∧ c ≤ '9' then some (c.toNat - '0'.toNat)
    else if 'a' ≤ c ∧ c ≤ 'f' then some (c.toNat - 'a'.toNat + 10)
    else if 'A' ≤ c ∧ c ≤ 'F' then some (c.toNat - 'A'.toNat + 10)
    else none
  v.filter (· < base)

/-- A non-empty run of digits, most significant first. -/
def parseDigits (base : Nat) (cs : List Char) : Option Nat :=
  if cs.isEmpty then none else cs.foldlM (fun acc c => (digitValue base c).map (acc * base + ·)) 0

/-- An unsigned integer, decimal or `0x` hexadecimal (R124). -/
def parseNat : List Char → Option Nat
  | '0' :: 'x' :: cs => parseDigits 16 cs
  | cs => parseDigits 10 cs

/-- An integer: "decimal (optionally negative) or `0x` hexadecimal" (R124). -/
def parseInt : List Char → Option Int
  | '-' :: cs => (parseDigits 10 cs).map (fun n => -(n : Int))
  | cs => (parseNat cs).map (fun n => (n : Int))

/-- A colour: `#RRGGBB` or a 32-bit integer (R124). The spec does not say whether the integer may be negative: the model takes
0 to 2^32 - 1 only (DESIGN CHOICE, log 20). -/
def parseColour : List Char → Option (BitVec 32)
  | '#' :: cs => if cs.length = 6 then (parseDigits 16 cs).map (BitVec.ofNat 32) else none
  | cs => (parseInt cs).bind (fitUnsigned 32)

/-- A decimal rate times 256, rounded down (45_rate_diag.md R235): `whole[.fraction]`. -/
def parseRate (cs : List Char) : Option Int :=
  let (neg, body) : Bool × List Char := match cs with
    | '-' :: r => (true, r)
    | r => (false, r)
  let whole := body.takeWhile (· != '.')
  let frac := (body.dropWhile (· != '.')).drop 1
  let scaled := parseDigits 10 (whole ++ frac)
  scaled.map (fun n => Int.fdiv ((if neg then -(n : Int) else n) * 256) (10 ^ frac.length))

/-- A SET_TPS operand: an integer in 1/256 tick per second, or `<decimal>tps` (R124). -/
def parseTps (cs : List Char) : Option Int :=
  match cs.reverse with
  | 's' :: 'p' :: 't' :: r => parseRate r.reverse
  | _ => parseInt cs

/-- White space between tokens. -/
def isBlank (c : Char) : Bool := c == ' ' || c == '\t'

/-- A token without the white space around it. -/
def trimBlanks (cs : List Char) : List Char := ((cs.dropWhile isBlank).reverse.dropWhile isBlank).reverse

/-- The parts of a text between separators. -/
def splitAtChar (sep : Char) : List Char → List (List Char)
  | [] => [[]]
  | c :: cs =>
    if c == sep then [] :: splitAtChar sep cs
    else match splitAtChar sep cs with
      | part :: parts => (c :: part) :: parts
      | [] => [[c]]

/-- The operands of a line: positional ones, then flags and named operands in any order (R124). -/
structure AsmOperands where
  positional : List (List Char)
  ign        : Bool
  filled     : Bool
  step       : Option Int
  gap        : Option Int
  keep       : Option Int
deriving DecidableEq, Repr

/-- The value of a named operand, given once. -/
def takeNamed (old : Option Int) (cs : List Char) : Option Int := if old.isSome then none else parseInt cs

/-- Read the operands of a line; none where one cannot be read (R124). -/
def readOperands : List (List Char) → Option AsmOperands
  | [] => some { positional := [], ign := false, filled := false, step := none, gap := none, keep := none }
  | tok :: rest =>
    match readOperands rest with
    | none => none
    | some ops =>
      match tok with
      | ['i', 'g', 'n'] => if ops.positional.isEmpty && !ops.ign then some { ops with ign := true } else none
      | ['f', 'i', 'l', 'l', 'e', 'd'] =>
        if ops.positional.isEmpty && !ops.filled then some { ops with filled := true } else none
      | 's' :: 't' :: 'e' :: 'p' :: '=' :: v =>
        if ops.positional.isEmpty then (takeNamed ops.step v).map (fun x => { ops with step := some x }) else none
      | 'g' :: 'a' :: 'p' :: '=' :: v =>
        if ops.positional.isEmpty then (takeNamed ops.gap v).map (fun x => { ops with gap := some x }) else none
      | 'k' :: 'e' :: 'e' :: 'p' :: '=' :: v =>
        if ops.positional.isEmpty then (takeNamed ops.keep v).map (fun x => { ops with keep := some x }) else none
      | other => some { ops with positional := other :: ops.positional }

/-- A coordinate operand. -/
def asmCoord (cs : List Char) : Option (BitVec 16) := (parseInt cs).bind (fitSigned 16)

/-- A 16-bit unsigned operand. -/
def asmSize (cs : List Char) : Option (BitVec 16) := (parseInt cs).bind (fitUnsigned 16)

/-- Flags and named operands a mnemonic does not take are an error. -/
def onlyOptions (ops : AsmOperands) (ign filled step gap keep : Bool) : Bool :=
  (ign || !ops.ign) && (filled || !ops.filled) && (step || ops.step.isNone) && (gap || ops.gap.isNone)
    && (keep || ops.keep.isNone)

/-- One command from its mnemonic and operands, the forms of R124 and the defaults of 00_scope.md R13. The components of
SET_RGB and FILL_RGB, a status byte and a control mask are not negative (DESIGN CHOICE, log 20). -/
def assembleOperands (mnemonic : List Char) (ops : AsmOperands) : Option (List Instr) :=
  let name := String.ofList mnemonic
  let none0 := onlyOptions ops false false false false false
  let ign0 := onlyOptions ops true false false false false
  match ops.positional with
  | [] =>
    if !none0 then none
    else if name = "NOP" then some [.nop]
    else if name = "CLEAR" then some [.clear]
    else if name = "GET_TPS" then some [.getTps]
    else if name = "CLEAR_DIAG" then some [.clearDiag]
    else if name = "STOP_ANIM" then some [.stopAnim]
    else if name = "IS_ANIM_RUNNING" then some [.isAnimRunning]
    else if name = "TICK" then some [.tick]
    else if name = "GET_CONTROLS" then some [.getControls]
    else if name = "GET_STATUS_LEN" then some [.getStatusLen]
    else if name = "CTRL_RESET" then some [.ctrlReset]
    else if name = "BLACK" then some expandBlack
    else none
  | a :: more =>
    if name = "STATUS_STAGE" then
      if none0 && decide (more.length ≤ 8) then do
        let offset ← asmSize a
        let bytes ← more.mapM (fun c => (parseInt c).bind (fitUnsigned 8))
        return [.statusStage offset (BitVec.ofNat 8 bytes.length) (packBytes bytes)]
      else none
    else match more with
    | [] =>
      if !none0 then none
      else if name = "FILL" then (parseColour a).map (fun c => [.fill c])
      else if name = "SET_TPS" then ((parseTps a).bind (fitSigned 32)).map (fun v => [.setTps v])
      else if name = "SET_CONTROLS" then
        ((parseInt a).bind (fitUnsigned 8)).map (fun m => [.setControls (m.setWidth 32)])
      else if name = "STATUS_COMMIT" then (asmSize a).map (fun n => [.statusCommit n])
      else none
    | [b] =>
      if !ign0 then none
      else if name = "OFF" then do return [.off ops.ign (← asmCoord a) (← asmCoord b)]
      else if name = "GET_PIXEL" then do return [.getPixel ops.ign (← asmCoord a) (← asmCoord b)]
      else none
    | [b, c] =>
      if name = "SET" && ign0 then do return [.set ops.ign (← asmCoord a) (← asmCoord b) (← parseColour c)]
      else if name = "FILL_RGB" && none0 then do return expandFillRgb (← parseNat a) (← parseNat b) (← parseNat c)
      else none
    | [b, c, d] =>
      if name = "DIGIT" && ign0 then do
        return [.digit ops.ign (← asmCoord a) (← asmCoord b) (← asmSize c) (← parseColour d)]
      else if name = "CIRCLE" && onlyOptions ops true true true false false then do
        return [.circle ops.filled ops.ign (← asmCoord a) (← asmCoord b) (← asmSize c)
          (← fitUnsigned 16 (ops.step.getD 2)) (← parseColour d)]
      else if name = "NUMBER" && onlyOptions ops true false false true false then do
        return [.number ops.ign (← asmCoord a) (← asmCoord b) (← asmSize c)
          (← fitUnsigned 16 (ops.gap.getD 1)) (← parseColour d)]
      else none
    | [b, c, d, e] =>
      if name = "LINE" && ign0 then do
        return [.line ops.ign (← asmCoord a) (← asmCoord b) (← asmCoord c) (← asmCoord d) (← parseColour e)]
      else if name = "RECT" && onlyOptions ops true true false false false then do
        return [.rect ops.filled ops.ign (← asmCoord a) (← asmCoord b) (← asmSize c) (← asmSize d) (← parseColour e)]
      else if name = "SET_RGB" && ign0 then do
        return expandSetRgb ops.ign (← asmCoord a) (← asmCoord b) (← parseNat c) (← parseNat d) (← parseNat e)
      else if name = "RUN_ANIM" && a == ['s', 'p', 'l', 'a', 's', 'h'] && onlyOptions ops false true false false true then do
        return [.runAnim 0#4 ops.filled (← (parseInt b).bind (fitSigned 8)) (← (parseInt c).bind (fitSigned 8))
          (← (parseInt e).bind (fitUnsigned 32)) (← fitUnsigned 32 (ops.keep.getD 0)) (← parseColour d)]
      else none
    | _ => none

/-- The bytes between the quotes of `SET_STATUS "s"`; ASCII text only (DESIGN CHOICE, log 20). -/
def quotedBytes (cs : List Char) : Option (List Byte) :=
  match cs with
  | '"' :: rest =>
    let body := rest.takeWhile (· != '"')
    let after := trimBlanks (rest.drop (body.length + 1))
    if body.length < rest.length && (after.isEmpty || after.head? == some ';') && body.all (fun c => decide (c.toNat < 128))
    then some (body.map (fun c => BitVec.ofNat 8 c.toNat)) else none
  | _ => none

/-- One assembler line (R124): the packets it stands for; none where it is no command. A blank or comment line stands for
no packet. -/
def assembleLine (line : List Char) : Option (List Instr) :=
  let text := trimBlanks line
  let mnemonic := (text.takeWhile (fun c => !isBlank c && c != ';'))
  if mnemonic = ['S', 'E', 'T', '_', 'S', 'T', 'A', 'T', 'U', 'S'] then
    match quotedBytes (trimBlanks (text.drop mnemonic.length)) with
    | some bytes => if bytes.length < 2 ^ 16 then some (expandSetStatus bytes) else none
    | none => none
  else
    let operands := trimBlanks ((text.takeWhile (· != ';')).drop mnemonic.length)
    if mnemonic.isEmpty then some []
    else match readOperands (if operands.isEmpty then [] else (splitAtChar ',' operands).map trimBlanks) with
      | some ops => assembleOperands mnemonic ops
      | none => none

end Sys2Proof.Machine
end

