-- ==== Sys2Proof/Safety.lean ====
section
/-! DEFINITION. What the statements speak of: the invariant of the block, what a drawing command leaves behind, when a
command is unsupported input, and which state each command may write. -/

namespace Sys2Proof.Safety

open Sys2Proof.Machine

/-- The slot invariant: Idle means every slot register is 0 (10_state.md R44); Running means a SPLASH (R38) of at least one
millisecond (R42) whose MAXR is the Splash radius of its centre (46_animation.md R252), in 8 to 141 (R41). -/
structure SlotOk (sl : Slot) : Prop where
  idle     : sl.active = false → sl = Slot.idle
  splash   : sl.active = true → sl.kind = 0#4
  lasts    : sl.active = true → 1 ≤ sl.duration.toNat
  radius   : sl.active = true → (sl.maxr.toNat : Int) = splashMaxRadius sl.sx.toInt sl.sy.toInt
  radiusLo : sl.active = true → 8 ≤ sl.maxr.toNat
  radiusHi : sl.active = true → sl.maxr.toNat ≤ 141

/-- At most one flag of a response is set (60_exceptions.md R306). -/
def AtMostOneFlag (r : Response) : Prop :=
  ¬ (r.oor = true ∧ r.unsup = true) ∧ ¬ (r.oor = true ∧ r.ill = true) ∧ ¬ (r.unsup = true ∧ r.ill = true)

/-- What every reachable state satisfies. -/
structure Inv (s : State) : Prop where
  /-- TPS is in [0, 51200] (10_state.md R34). -/
  tpsRange    : s.tps.toNat ≤ 51200
  /-- The slot invariant (10_state.md R38 to R44). -/
  slotOk      : SlotOk s.slot
  /-- STATUS_LEN is at most STATUS_CAP (10_state.md R46). -/
  statusFits  : s.statusLen.toNat ≤ s.params.statusCap
  /-- "STATUS[i] = 0 for every i >= STATUS_LEN" (10_state.md R46). -/
  statusTail  : ∀ i, s.statusLen.toNat ≤ i → Memory.read s.status i = 0#8
  /-- STATUS is in canonical form. -/
  statusForm  : Memory.wf s.status = true
  /-- STAGE is in canonical form. -/
  stageForm   : Memory.wf s.stage = true
  /-- STAGE holds bytes below STATUS_CAP only (10_state.md R47). -/
  stageFits   : Memory.below s.params.statusCap s.stage = true
  /-- RESP has at most one flag (60_exceptions.md R306). -/
  oneFlag     : AtMostOneFlag s.resp
  /-- While reset is asserted every piece of state holds its reset value (70_reset_and_hazards.md R330; DESIGN CHOICE, log 18). -/
  resetHeld   : s.resetAsserted = true → assertReset s = s
  /-- A partial packet has at most three beats (20_memory.md R74). -/
  beatsFew    : s.beats.length ≤ 3
  /-- Strobes are held back only while BUSY = 1 (20_memory.md R81). -/
  heldBusy    : s.busy = false → s.heldStrobes = 0
  /-- The parameters are legal (20_memory.md R72). -/
  paramsLegal : s.params.legal

/-- `t` is `s` after a drawing command painted exactly the InGrid points of `pts` with `c`: every other cell and every other
register is unchanged; DATA = 0; OOR is raised exactly when `ign` is 0 and some point is not InGrid (40_pixel.md R143,
60_exceptions.md R301); DIAG is ORed with the flag (R307); BUSY is 0. -/
structure Painted (s t : State) (c : Colour) (ign : Bool) (pts : Point → Prop) : Prop where
  lit   : ∀ x y, InGrid x y → pts (x, y) → pixRead t.pix x y = c
  unlit : ∀ x y, InGrid x y → ¬ pts (x, y) → pixRead t.pix x y = pixRead s.pix x y
  oor   : t.resp.oor = true ↔ ign = false ∧ ∃ p, pts p ∧ ¬ InGrid p.1 p.2
  rest  : t = { s with
    pix := t.pix
    resp := { data := 0#32, oor := t.resp.oor, unsup := false, ill := false }
    diag := s.diag ||| (0#1 ++ 0#1 ++ BitVec.ofBool t.resp.oor)
    inFlight := none }

/-- The state after a command answered `data` with no flag and did nothing else: RESP and BUSY change (DIAG keeps its value,
10_state.md R53). -/
def answered (data : BitVec 32) (s : State) : State :=
  { s with resp := { data := data, oor := false, unsup := false, ill := false }, inFlight := none }

/-- The state after UNSUP: "changes no state except RESP, DIAG and BUSY, and its DATA is 0" (60_exceptions.md R302). -/
def turnedAway (s : State) : State :=
  { s with
    resp := { data := 0#32, oor := false, unsup := true, ill := false }
    diag := s.diag ||| 2#3
    inFlight := none }

/-- How many decimal digits n has; 0 has one (44_glyph.md R220). -/
def digitCount (n : Nat) : Nat := max 1 (Nat.digits 10 n).length

/-- The UNSUP table of 60_exceptions.md R302. -/
def Unsupported (s : State) : Instr → Prop
  | .rect _ _ _ _ w h _ => w.toNat = 0 ∨ h.toNat = 0
  | .circle _ _ _ _ _ step _ => step.toNat = 0
  | .digit _ _ _ n _ => n.toNat > 9
  | .number _ x _ n gap _ => x.toInt + (3 * digitCount n.toNat + gap.toNat * (digitCount n.toNat - 1) : Nat) > 12
  | .runAnim _ _ _ _ dur _ _ => dur.toNat = 0
  | .statusStage off cnt _ => cnt.toNat > 8 ∨ off.toNat + cnt.toNat > s.params.statusCap
  | .statusCommit len => len.toNat > s.params.statusCap
  | .nop | .set _ _ _ _ | .off _ _ _ | .fill _ | .clear | .line _ _ _ _ _ _ | .getPixel _ _ _ => False
  | .setTps _ | .getTps | .clearDiag | .stopAnim | .isAnimRunning | .tick => False
  | .setControls _ | .getControls | .getStatusLen | .ctrlReset => False

/-- The packets that write PIX (10_state.md R53). -/
def writesPix (op : Op) : Bool :=
  op ∈ [Op.set, .off, .fill, .clear, .line, .rect, .circle, .digit, .number, .tick]

/-- The packets that write the slot (10_state.md R53). -/
def writesSlot (op : Op) : Bool := op ∈ [Op.runAnim, .stopAnim, .tick]

/-- The packets that write CONTROLS (10_state.md R53). -/
def writesControls (op : Op) : Bool := op ∈ [Op.setControls, .ctrlReset]

/-- The packets that write STATUS and STATUS_LEN (10_state.md R53). -/
def writesStatus (op : Op) : Bool := op ∈ [Op.statusCommit, .ctrlReset]

/-- The packets that write NOTIFY_COUNT (10_state.md R53). -/
def writesNotify (op : Op) : Bool := op ∈ [Op.setControls, .statusCommit, .ctrlReset]

/-- Whether the HOST's next turn is one it must hold: a packet or a beat that meets BUSY = 1 (70_reset_and_hazards.md R333). -/
def HeldTurn (s : State) : Prop :=
  s.busy = true ∧ ∃ rest, (∃ q, s.agenda = .present q :: rest) ∨ (∃ w, s.agenda = .beat w :: rest)

/-- Whether it is the ENGINE's turn, with `rest` left of the agenda: the next turn is the ENGINE's, or no turn is left, or the
HOST must hold its turn and keeps it (DEDUCED, log 2). -/
def EnginesTurn (s : State) (rest : List Turn) : Prop :=
  s.agenda = .engine :: rest ∨ (s.agenda = [] ∧ rest = []) ∨ (HeldTurn s ∧ rest = s.agenda)

/-- The points of the Splash ring for elapsed time `el`: 180 samples of radius MAXR * el / DURATION around (SX, SY)
(46_animation.md R253, R254, 42_circle.md R192). -/
def SplashRing (s : State) (el : Nat) (p : Point) : Prop :=
  ∃ k : Nat, k < 180 ∧
    p = (s.slot.sx.toInt + Int.fdiv (cosRom s.params.angleUnit (2 * k) * (s.slot.maxr.toNat * el : Nat))
          (2 ^ 30 * s.slot.duration.toNat),
         s.slot.sy.toInt + Int.fdiv (sinRom s.params.angleUnit (2 * k) * (s.slot.maxr.toNat * el : Nat))
          (2 ^ 30 * s.slot.duration.toNat))

/-- The cells a decimal digit lights, at (x, y) (44_glyph.md R216 to R218). -/
def GlyphPoint (x y : Int) (d : Nat) (p : Point) : Prop :=
  ∃ seg ∈ digitSegments d, ∃ cell ∈ segmentCells seg, p = (x + cell.1, y + cell.2)

/-- The box of `rect(x, y, w, h)` (41_line_rect.md R173). -/
def InBox (x y : Int) (w h : Nat) (p : Point) : Prop := x ≤ p.1 ∧ p.1 ≤ x + w - 1 ∧ y ≤ p.2 ∧ p.2 ≤ y + h - 1

/-- The border cells of the box (41_line_rect.md R175). -/
def OnBorder (x y : Int) (w h : Nat) (p : Point) : Prop :=
  InBox x y w h p ∧ (p.1 = x ∨ p.1 = x + w - 1 ∨ p.2 = y ∨ p.2 = y + h - 1)

/-- The ENGINE executes a list of commands one after another; none if one of them does not complete. -/
def executeAll : List Instr → State → Option State
  | [], s => some s
  | i :: rest, s =>
    match exec i s with
    | .next t => executeAll rest t
    | .fault _ => none
    | .refused _ => none

end Sys2Proof.Safety
end

