-- ==== Sys2Proof/Certificates/Slice0/Obligations.lean ====
section
/-! DEFINITION. The statements for the provers. Each docstring names the rules of spec/ it formalises. -/

open Sys2Proof Sys2Proof.Machine Sys2Proof.Safety

/-! ### Encoding -/

/-- Decoding the packet of a well-formed command gives the command back (30_encoding.md R101 to R113). -/
def Obligations.DecodeOfEncodeGivesTheCommand : Prop := ∀ i : Instr, i.wf = true → decode (encode i) = .ok i

/-- A legal packet is the packet of the command it decodes to, and that command is well formed: no bit of a legal packet is
lost or made up (30_encoding.md R101 to R116). -/
def Obligations.EncodeOfDecodeGivesThePacket : Prop :=
  ∀ (p : Packet) (i : Instr), decode p = .ok i → i.wf = true ∧ encode i = p

/-- R117: "Exactly one row matches a legal packet; a packet no row matches is illegal." -/
def Obligations.LegalPacketMatchesExactlyItsRow : Prop :=
  (∀ (p : Packet) (i : Instr), decode p = .ok i →
    (opcodeRows.filter (fun r => r.matchesPacket p)).map (fun r => r.op) = [i.op]) ∧
  (∀ (p : Packet) (e : IllegalReason), decode p = .illegal e → opcodeRows.filter (fun r => r.matchesPacket p) = []) ∧
  (∀ r ∈ opcodeRows, r.pattern = r.op.code ++ 0#120)

/-- R115: the unassigned opcodes are exactly 0x0D, 0x0E, 0x14 to 0x17 and 0x1E to 0xFF. -/
def Obligations.UnassignedOpcodesAreIllegal : Prop :=
  ∀ p : Packet, decode p = .illegal .unassignedOpcode ↔
    ((p.extractLsb' 120 8).toNat = 0x0D ∨ (p.extractLsb' 120 8).toNat = 0x0E ∨
      (0x14 ≤ (p.extractLsb' 120 8).toNat ∧ (p.extractLsb' 120 8).toNat ≤ 0x17) ∨ 0x1E ≤ (p.extractLsb' 120 8).toNat)

/-- R121: the worked encodings decode to their commands. -/
def Obligations.WorkedEncodingsDecode : Prop :=
  decode 0x01000000_00030004_00000000_00FF0000#128 = .ok (.set false 3 4 0xFF0000) ∧
  decode 0x01010000_FFFF000C_00000000_0000FF00#128 = .ok (.set true (-1) 12 0x00FF00) ∧
  decode 0x05000000_00000000_000B0005_000000FF#128 = .ok (.line false 0 0 11 5 0x0000FF) ∧
  decode 0x06020000_00020003_00040005_00FFFFFF#128 = .ok (.rect true false 2 3 4 5 0xFFFFFF) ∧
  decode 0x07000000_00050005_00030002_00123456#128 = .ok (.circle false false 5 5 3 2 0x123456) ∧
  decode 0x09000000_00000000_002A0001_00FF8000#128 = .ok (.number false 0 0 42 1 0xFF8000) ∧
  decode 0x10000000_00000064_00000032_0000FFFF#128 = .ok (.runAnim 0 false 0 0 100 50 0x00FFFF) ∧
  decode 0x1002FD05_000003E8_00000000_0000FFFF#128 = .ok (.runAnim 0 true (-3) 5 1000 0 0x00FFFF) ∧
  decode 0x1A000000_02000000_00000000_00006948#128 = .ok (.statusStage 0 2 0x6948) ∧
  decode 0x1B000002_00000000_00000000_00000000#128 = .ok (.statusCommit 2) ∧
  decode 0x0B000000_00000000_00000000_00001400#128 = .ok (.setTps 5120) ∧
  decode 0x18000000_00000000_00000000_00000081#128 = .ok (.setControls 0x81) ∧
  decode 0x13000000_00000000_00000000_00000000#128 = .ok .tick

/-! ### Steps, agents and the invariant -/

/-- When the ENGINE's turn (its own, with no turn left, or with a HOST turn held back) finds an accepted packet that decodes, the step is the command's effect, after which the strobes
held back during the packet are added to NOW (20_memory.md R77, R81; logs 1, 2, 4). -/
def Obligations.StepRunsTheAcceptedPacket : Prop :=
  ∀ (s : State) (p : Packet) (i : Instr) (rest : List Turn),
    EnginesTurn s rest → s.inFlight = some p → decode p = .ok i →
    ∃ t, exec i { s with agenda := rest, notifyOut := false } = .next t ∧
      step s = .next { t with now := t.now + BitVec.ofNat 64 t.heldStrobes, heldStrobes := 0 }

/-- The effect of an illegal packet: RESP, DIAG[2] and BUSY, nothing else (60_exceptions.md R303); NOW takes only the strobes
held back while BUSY was 1 (20_memory.md R81). -/
def Obligations.IllegalPacketOnlyDiagnoses : Prop :=
  ∀ (s : State) (p : Packet) (e : IllegalReason) (rest : List Turn),
    EnginesTurn s rest → s.inFlight = some p → decode p = .illegal e →
    step s = .next { s with
      agenda := rest
      notifyOut := false
      resp := { data := 0#32, oor := false, unsup := false, ill := true }
      diag := s.diag ||| 4#3
      inFlight := none
      now := s.now + BitVec.ofNat 64 s.heldStrobes
      heldStrobes := 0 }

/-- R305: every packet, legal or not, completes with a response, after which BUSY is 0 and the port accepts the next packet;
no step faults or is refused. -/
def Obligations.EveryPacketCompletes : Prop :=
  (∀ (p : Packet) (s : State), ∃ t, runPacket p s = .next t ∧ t.busy = false ∧
    ∀ q, s.resetAsserted = false → (presentPacket q t).inFlight = some q) ∧
  (∀ s : State, ∃ t, step s = .next t)

/-- The invariant holds in the reset state. -/
def Obligations.InvariantHoldsAtReset : Prop := Inv State.reset

/-- Every step keeps the invariant (10_state.md R34, R38, R41, R42, R44, R46, R47; 60_exceptions.md R306; R330). -/
def Obligations.EveryStepKeepsTheInvariant : Prop := ∀ s t : State, Inv s → step s = .next t → Inv t

/-- R52: the value of every piece of the spec's state after reset. -/
def Obligations.ResetHoldsTheSpecValues : Prop :=
  (∀ i, i < 144 → cellAt State.reset.pix i = 0#24) ∧ State.reset.tps = 0#16 ∧ State.reset.diag = 0#3 ∧
  State.reset.now = 0#64 ∧
  State.reset.slot = { active := false, kind := 0, sx := 0, sy := 0, scolor := 0, sfill := false, maxr := 0, duration := 0,
                       keep := 0, start := 0 } ∧
  State.reset.controls = 0#8 ∧ (∀ i, Memory.read State.reset.status i = 0#8) ∧ State.reset.statusLen = 0#16 ∧
  (∀ i, Memory.read State.reset.stage i = 0#8) ∧ State.reset.notifyCount = 0#32 ∧ State.reset.busy = false ∧
  State.reset.resp = { data := 0, oor := false, unsup := false, ill := false } ∧ State.reset.notifyOut = false

/-- The reset input: asserted, every piece of the block's state takes its reset value, whatever was in progress; released, the
state stays (70_reset_and_hazards.md R330). That the values show from the assertion on is the model's choice (log 18). -/
def Obligations.ResetInputRestoresTheResetState : Prop :=
  (∀ (s : State) (rest : List Turn), s.agenda = .resetInput true :: rest →
    step s = .next { State.reset with
      resetAsserted := true, agenda := rest, exportData := s.exportData, freeCount := s.freeCount, params := s.params }) ∧
  (∀ (s : State) (rest : List Turn), s.agenda = .resetInput false :: rest →
    step s = .next { s with resetAsserted := false, agenda := rest, notifyOut := false })

/-- While reset is asserted the command port accepts no packet and strobes are ignored; an export read changes no block state
(70_reset_and_hazards.md R330). That the HOST's turn is used up is the model's choice (log 10). -/
def Obligations.AssertedResetIgnoresPacketsAndStrobes : Prop :=
  ∀ (s : State) (rest : List Turn), s.resetAsserted = true → s.busy = false →
    (∀ p, s.agenda = .present p :: rest → step s = .next { s with agenda := rest, notifyOut := false }) ∧
    (∀ w, s.agenda = .beat w :: rest → step s = .next { s with agenda := rest, notifyOut := false }) ∧
    (s.agenda = .strobe :: rest → step s = .next { s with agenda := rest, notifyOut := false }) ∧
    (∀ a, s.agenda = .read a :: rest → ∃ v, step s = .next { s with
      agenda := rest, notifyOut := false, exportData := v, freeCount := s.freeCount + 1 })

/-- The block holds its state when there is nothing to do: on an ENGINE's turn with no packet in flight only the turn is used up
and the NOTIFY pulse of the step before is over (60_exceptions.md R316; log 1). -/
def Obligations.IdleEngineHoldsTheState : Prop :=
  ∀ (s : State) (rest : List Turn), EnginesTurn s rest → s.inFlight = none →
    step s = .next { s with agenda := rest, notifyOut := false }

/-- The command port: a packet presented while BUSY = 0 is accepted and BUSY becomes 1. A packet or a beat presented while
BUSY = 1 stays with the HOST, and the step is the whole execution of the packet in progress, so that nothing is dropped
(70_reset_and_hazards.md R333; log 2). -/
def Obligations.PortAcceptsOnePacketAtATime : Prop :=
  (∀ (s : State) (q : Packet) (rest : List Turn), s.agenda = .present q :: rest → s.busy = false → s.resetAsserted = false →
    step s = .next { s with agenda := rest, notifyOut := false, inFlight := some q }) ∧
  (∀ (s : State) (p : Packet), HeldTurn s → s.inFlight = some p →
    step s = runPacket p { s with notifyOut := false } ∧
      ∃ t, step s = .next t ∧ t.agenda = s.agenda ∧ t.busy = false)

/-- Beat 0 carries bits [127:96], beat 1 [95:64], beat 2 [63:32], beat 3 [31:0], and the packet is accepted only with the
fourth beat (20_memory.md R74, R75). -/
def Obligations.FourBeatsMakeAPacket : Prop :=
  ∀ (s : State) (p : Packet) (rest : List Turn), s.busy = false → s.resetAsserted = false → s.beats = [] →
    s.agenda = .beat (p.extractLsb' 96 32) :: .beat (p.extractLsb' 64 32) :: .beat (p.extractLsb' 32 32) ::
      .beat (p.extractLsb' 0 32) :: rest →
    Sys2Proof.core.run 3 s = .next { s with
      agenda := .beat (p.extractLsb' 0 32) :: rest, notifyOut := false,
      beats := [p.extractLsb' 96 32, p.extractLsb' 64 32, p.extractLsb' 32 32] } ∧
    Sys2Proof.core.run 4 s = .next { s with agenda := rest, notifyOut := false, inFlight := some p }

/-- A strobe between packets adds 1 to NOW modulo 2^64 and does nothing else (10_state.md R36). -/
def Obligations.StrobeAdvancesNow : Prop :=
  ∀ (s : State) (rest : List Turn), s.agenda = .strobe :: rest → s.busy = false → s.resetAsserted = false →
    ∃ t, step s = .next t ∧ t.now.toNat = (s.now.toNat + 1) % 2 ^ 64 ∧
      t = { s with agenda := rest, notifyOut := false, now := t.now }

/-- A strobe that arrives while BUSY = 1 is not lost: it is in NOW or held for after the packet's step (20_memory.md R81). Which
of the two is a free choice (log 4). -/
def Obligations.BusyStrobeIsNotLost : Prop :=
  ∀ (s : State) (rest : List Turn), s.agenda = .strobe :: rest → s.busy = true → s.resetAsserted = false →
    ∃ t, step s = .next t ∧
      t.now + BitVec.ofNat 64 t.heldStrobes = s.now + BitVec.ofNat 64 s.heldStrobes + 1#64 ∧
      ((t.now = s.now + 1#64 ∧ t.heldStrobes = s.heldStrobes) ∨ (t.now = s.now ∧ t.heldStrobes = s.heldStrobes + 1)) ∧
      t = { s with
        agenda := rest, notifyOut := false, now := t.now, heldStrobes := t.heldStrobes, freeCount := s.freeCount + 1 }

/-! ### Export port -/

/-- R72: the export port map. -/
def Obligations.ExportPortMap : Prop :=
  ∀ (s : State) (a : BitVec 12),
    (a.toNat ≤ 0x08F → exportWord s a = 0#8 ++ cellAt s.pix a.toNat) ∧
    (a = 0x090 → exportWord s a = 0#30 ++ BitVec.ofBool s.slot.active ++ BitVec.ofBool s.busy) ∧
    (a = 0x091 → exportWord s a = 0#29 ++ s.diag) ∧
    (a = 0x092 → exportWord s a = 0#16 ++ s.tps) ∧
    (a = 0x093 → exportWord s a = 0#24 ++ s.controls) ∧
    (a = 0x094 → exportWord s a = 0#16 ++ s.statusLen) ∧
    (a = 0x095 → exportWord s a = s.notifyCount) ∧
    (a = 0x096 → exportWord s a = s.now.extractLsb' 0 32) ∧
    (a = 0x097 → exportWord s a = s.now.extractLsb' 32 32) ∧
    (a = 0x098 → exportWord s a =
      s.slot.maxr ++ s.slot.sy ++ s.slot.sx ++ 0#3 ++ BitVec.ofBool s.slot.sfill ++ s.slot.kind) ∧
    (a = 0x099 → exportWord s a = 0#8 ++ s.slot.scolor) ∧
    (a = 0x09A → exportWord s a = s.slot.duration) ∧
    (a = 0x09B → exportWord s a = s.slot.keep) ∧
    (a = 0x09C → exportWord s a = s.slot.start.extractLsb' 0 32) ∧
    (a = 0x09D → exportWord s a = s.slot.start.extractLsb' 32 32) ∧
    (0x09E ≤ a.toNat → a.toNat ≤ 0x0FF → exportWord s a = 0#32) ∧
    (∀ k, a.toNat = 0x100 + k → k < s.params.statusCap / 4 → exportWord s a =
      Memory.read s.status (4 * k + 3) ++ Memory.read s.status (4 * k + 2) ++ Memory.read s.status (4 * k + 1) ++
        Memory.read s.status (4 * k)) ∧
    (0x100 + s.params.statusCap / 4 ≤ a.toNat → exportWord s a = 0#32)

/-- An export read between packets returns the value of the current state and changes no block state; a write to the port has
no effect (20_memory.md R73, R80). -/
def Obligations.ExportReadChangesNothing : Prop :=
  ∀ (s : State) (rest : List Turn) (a : BitVec 12),
    (s.agenda = .read a :: rest → s.busy = false → s.resetAsserted = false →
      step s = .next { s with agenda := rest, notifyOut := false, exportData := exportWord s a }) ∧
    (∀ v, s.agenda = .write a v :: rest → step s = .next { s with agenda := rest, notifyOut := false })

/-- While BUSY = 1 word 0x090 reads BUSY = 1 and the current ACTIVE; a read of any other word returns some value and changes no
block state (20_memory.md R78; which value is free, log 3). -/
def Obligations.BusyExportRead : Prop :=
  ∀ (s : State) (rest : List Turn) (a : BitVec 12), s.agenda = .read a :: rest → s.busy = true → s.resetAsserted = false →
    (a = 0x090 → step s = .next { s with
      agenda := rest, notifyOut := false, exportData := 0#30 ++ BitVec.ofBool s.slot.active ++ 1#1 }) ∧
    (a ≠ 0x090 → ∃ v, step s = .next { s with
      agenda := rest, notifyOut := false, exportData := v, freeCount := s.freeCount + 1 })

/-! ### Pixel addressing and fill -/

/-- R141, R142: `Index(x, y) = x + (11 - y) * 12` is a bijection of the grid onto [0, 143], with inverse
`x = i mod 12`, `y = 11 - (i div 12)`. -/
def Obligations.IndexIsABijection : Prop :=
  (∀ x y : Int, InGrid x y →
    (pixelIndex x y : Int) = x + (11 - y) * 12 ∧ pixelIndex x y < 144 ∧
      x = ((pixelIndex x y % 12 : Nat) : Int) ∧ y = 11 - ((pixelIndex x y / 12 : Nat) : Int)) ∧
  (∀ i : Nat, i < 144 →
    InGrid ((i % 12 : Nat) : Int) (11 - ((i / 12 : Nat) : Int)) ∧
      pixelIndex ((i % 12 : Nat) : Int) (11 - ((i / 12 : Nat) : Int)) = i)

/-- R145: SET writes one pixel, or raises OOR out of the grid unless IGN. -/
def Obligations.SetPaintsOnePixel : Prop :=
  ∀ (ign : Bool) (x y : BitVec 16) (color : BitVec 32) (s : State),
    decode (0x01#8 ++ 0#7 ++ BitVec.ofBool ign ++ 0#16 ++ x ++ y ++ 0#32 ++ color) = .ok (.set ign x y color) ∧
    ∃ t, exec (.set ign x y color) s = .next t ∧
      Painted s t (color.extractLsb' 0 24) ign (fun p => p = (x.toInt, y.toInt))

/-- R146: OFF writes 0x000000 to one pixel; it is SET with black. -/
def Obligations.OffPaintsOnePixelBlack : Prop :=
  ∀ (ign : Bool) (x y : BitVec 16) (s : State),
    decode (0x02#8 ++ 0#7 ++ BitVec.ofBool ign ++ 0#16 ++ x ++ y ++ 0#64) = .ok (.off ign x y) ∧
    (∃ t, exec (.off ign x y) s = .next t ∧ Painted s t 0#24 ign (fun p => p = (x.toInt, y.toInt))) ∧
    exec (.off ign x y) s = exec (.set ign x y 0#32) s

/-- R147: GET_PIXEL answers the cell; out of the grid it answers 0, with OOR unless IGN. -/
def Obligations.GetPixelAnswersTheCell : Prop :=
  ∀ (ign : Bool) (x y : BitVec 16) (s : State),
    decode (0x0A#8 ++ 0#7 ++ BitVec.ofBool ign ++ 0#16 ++ x ++ y ++ 0#64) = .ok (.getPixel ign x y) ∧
    (InGrid x.toInt y.toInt →
      exec (.getPixel ign x y) s = .next (answered (0#8 ++ cellAt s.pix (x.toInt + (11 - y.toInt) * 12).toNat) s)) ∧
    (¬ InGrid x.toInt y.toInt → ign = true → exec (.getPixel ign x y) s = .next (answered 0#32 s)) ∧
    (¬ InGrid x.toInt y.toInt → ign = false → exec (.getPixel ign x y) s = .next { s with
      resp := { data := 0#32, oor := true, unsup := false, ill := false }
      diag := s.diag ||| 1#3
      inFlight := none })

/-- R148, R149: FILL writes every cell, CLEAR is FILL 0; neither raises a diagnostic. -/
def Obligations.FillAndClearWriteEveryCell : Prop :=
  (∀ color : BitVec 32, decode (0x03#8 ++ 0#88 ++ color) = .ok (.fill color)) ∧
  decode (0x04#8 ++ 0#120) = .ok .clear ∧
  (∀ (color : BitVec 32) (s : State), ∃ t, exec (.fill color) s = .next t ∧
    (∀ i, i < 144 → cellAt t.pix i = color.extractLsb' 0 24) ∧ t = { answered 0#32 s with pix := t.pix }) ∧
  (∀ s : State, ∃ t, exec .clear s = .next t ∧
    (∀ i, i < 144 → cellAt t.pix i = 0#24) ∧ t = { answered 0#32 s with pix := t.pix }) ∧
  (∀ s : State, exec .clear s = exec (.fill 0#32) s)

/-! ### Lines and rectangles -/

/-- R171: the line's first point, last point, number of points, distinctness and adjacency, for every pair of end points; and
the pair of lines that shows the order of the end points matters. -/
def Obligations.LinePixelsReachTheirEnd : Prop :=
  (∀ x1 y1 x2 y2 : Int,
    (linePixels x1 y1 x2 y2).head? = some (x1, y1) ∧
    (linePixels x1 y1 x2 y2).getLast? = some (x2, y2) ∧
    (linePixels x1 y1 x2 y2).length = max (x2 - x1).natAbs (y2 - y1).natAbs + 1 ∧
    (linePixels x1 y1 x2 y2).Nodup ∧
    (∀ (k : Nat) (p q : Point), (linePixels x1 y1 x2 y2)[k]? = some p → (linePixels x1 y1 x2 y2)[k + 1]? = some q →
      (q.1 - p.1).natAbs ≤ 1 ∧ (q.2 - p.2).natAbs ≤ 1)) ∧
  linePixels 0 0 2 1 = [(0, 0), (1, 1), (2, 1)] ∧ linePixels 2 1 0 0 = [(2, 1), (1, 0), (0, 0)]

/-- R172: LINE paints exactly the points of LinePixels; with equal end points, exactly one pixel. -/
def Obligations.LineDrawsItsPixels : Prop :=
  ∀ (ign : Bool) (x1 y1 x2 y2 : BitVec 16) (color : BitVec 32) (s : State),
    decode (0x05#8 ++ 0#7 ++ BitVec.ofBool ign ++ 0#16 ++ x1 ++ y1 ++ x2 ++ y2 ++ color) =
      .ok (.line ign x1 y1 x2 y2 color) ∧
    ∃ t, exec (.line ign x1 y1 x2 y2 color) s = .next t ∧
      Painted s t (color.extractLsb' 0 24) ign (fun p => p ∈ linePixels x1.toInt y1.toInt x2.toInt y2.toInt) ∧
      (x1 = x2 → y1 = y2 → Painted s t (color.extractLsb' 0 24) ign (fun p => p = (x1.toInt, y1.toInt)))

/-- R175, R176: RECT paints the border cells of its box, or every cell of it when filled; its OOR flag says whether some cell of
the BOX is out of the grid, filled or not; w = 0 or h = 0 is turned away. -/
def Obligations.RectDrawsItsBox : Prop :=
  ∀ (filled ign : Bool) (x y w h : BitVec 16) (color : BitVec 32) (s : State),
    decode (0x06#8 ++ 0#6 ++ BitVec.ofBool filled ++ BitVec.ofBool ign ++ 0#16 ++ x ++ y ++ w ++ h ++ color) =
      .ok (.rect filled ign x y w h color) ∧
    (w.toNat ≠ 0 → h.toNat ≠ 0 →
      ∃ t, exec (.rect filled ign x y w h color) s = .next t ∧
        Painted s t (color.extractLsb' 0 24) ign (fun p =>
          if filled = true then InBox x.toInt y.toInt w.toNat h.toNat p else OnBorder x.toInt y.toInt w.toNat h.toNat p) ∧
        (t.resp.oor = true ↔ ign = false ∧ ∃ p, InBox x.toInt y.toInt w.toNat h.toNat p ∧ ¬ InGrid p.1 p.2)) ∧
    (w.toNat = 0 ∨ h.toNat = 0 → exec (.rect filled ign x y w h color) s = .next (turnedAway s))

/-- R174, R176: RECT is the write sequence of RectDraw: the four border edges, then the fill runs, each a line. -/
def Obligations.RectIsItsWriteSequence : Prop :=
  ∀ (filled ign : Bool) (x y w h : BitVec 16) (color : BitVec 32) (s : State), w.toNat ≠ 0 → h.toNat ≠ 0 →
    exec (.rect filled ign x y w h color) s =
      .next (drawAndRespond (color.extractLsb' 0 24) ign (rectPixels x.toInt y.toInt w.toNat h.toNat filled) s)

/-! ### Circles -/

/-- R212, R210: the ROM has 360 rows of values in [-2^30, 2^30], with the exact entries the spec lists. -/
def Obligations.RomHoldsItsExactEntries : Prop :=
  (cosR.length = 360 ∧ sinR.length = 360 ∧ cosD.length = 360 ∧ sinD.length = 360) ∧
  (∀ v ∈ cosR ++ sinR ++ cosD ++ sinD, -(2 ^ 30) ≤ v ∧ v ≤ (2 ^ 30 : Int)) ∧
  (cosRom .radiansAsGiven 0 = 2 ^ 30 ∧ cosRom .degrees 0 = 2 ^ 30 ∧ sinRom .radiansAsGiven 0 = 0 ∧ sinRom .degrees 0 = 0) ∧
  (cosRom .degrees 90 = 0 ∧ cosRom .degrees 270 = 0 ∧ sinRom .degrees 180 = 0) ∧
  (cosRom .degrees 60 = 2 ^ 29 ∧ sinRom .degrees 30 = 2 ^ 29) ∧
  (cosRom .degrees 180 = -(2 ^ 30) ∧ sinRom .degrees 90 = 2 ^ 30 ∧ sinRom .degrees 270 = -(2 ^ 30)) ∧
  (sinRom .radiansAsGiven 355 = -32367 ∧ cosRom .radiansAsGiven 355 = -(2 ^ 30) ∧
    cosRom .radiansAsGiven 344 = -4719690) ∧
  (∀ n, 1 ≤ n → n < 360 → 32367 ≤ (sinRom .radiansAsGiven n).natAbs ∧ 4719690 ≤ (cosRom .radiansAsGiven n).natAbs)

/-- R190, R192, R193: CIRCLE paints one point per sample, out-of-range suppressed; FILL and IGN have no effect; step = 0 is
turned away. -/
def Obligations.CircleDrawsItsSamples : Prop :=
  ∀ (filled ign : Bool) (x y r step : BitVec 16) (color : BitVec 32) (s : State),
    decode (0x07#8 ++ 0#6 ++ BitVec.ofBool filled ++ BitVec.ofBool ign ++ 0#16 ++ x ++ y ++ r ++ step ++ color) =
      .ok (.circle filled ign x y r step color) ∧
    (step.toNat ≠ 0 →
      ∃ t, exec (.circle filled ign x y r step color) s = .next t ∧
        Painted s t (color.extractLsb' 0 24) true (fun p => ∃ k : Nat, k < 360 / step.toNat ∧
          p = (x.toInt + Int.fdiv (cosRom s.params.angleUnit (k * step.toNat) * r.toNat) (2 ^ 30),
               y.toInt + Int.fdiv (sinRom s.params.angleUnit (k * step.toNat) * r.toNat) (2 ^ 30)))) ∧
    (step.toNat = 0 → exec (.circle filled ign x y r step color) s = .next (turnedAway s)) ∧
    exec (.circle filled ign x y r step color) s = exec (.circle false false x y r step color) s

/-- R193: the corner cases of CIRCLE: radius 0 lights only the centre, a step from 181 to 360 plots the one point (x + r, y),
a step above 360 plots nothing. -/
def Obligations.CircleCornerCases : Prop :=
  ∀ (filled ign : Bool) (x y r step : BitVec 16) (color : BitVec 32) (s : State),
    (r.toNat = 0 → 1 ≤ step.toNat → step.toNat ≤ 360 → ∃ t, exec (.circle filled ign x y r step color) s = .next t ∧
      Painted s t (color.extractLsb' 0 24) true (fun p => p = (x.toInt, y.toInt))) ∧
    (181 ≤ step.toNat → step.toNat ≤ 360 → ∃ t, exec (.circle filled ign x y r step color) s = .next t ∧
      Painted s t (color.extractLsb' 0 24) true (fun p => p = (x.toInt + r.toNat, y.toInt))) ∧
    (361 ≤ step.toNat → exec (.circle filled ign x y r step color) s = .next (answered 0#32 s))

/-! ### Glyphs and numbers -/

/-- R225 and the counts of R218: the ten glyphs, row v = 0 first, bit 2 of a row its column u = 0; and how many distinct cells
each lights. -/
def Obligations.GlyphPictures : Prop :=
  (List.range 10).map (fun d => (List.range 5).map (fun v =>
      (List.range 3).foldl (fun acc u => 2 * acc + (if (u, v) ∈ digitCells d then 1 else 0)) 0)) =
    [[7, 5, 5, 5, 7], [1, 1, 1, 1, 1], [7, 1, 7, 4, 7], [7, 1, 7, 1, 7], [5, 5, 7, 1, 1],
     [7, 4, 7, 1, 7], [7, 4, 7, 5, 7], [7, 1, 1, 1, 1], [7, 5, 7, 5, 7], [7, 5, 7, 1, 7]] ∧
  (List.range 10).map (fun d => (digitCells d).dedup.length) = [12, 5, 11, 11, 9, 11, 12, 7, 13, 12]

/-- R219: DIGIT lights exactly the cells of the digit's segments; n above 9 is turned away. -/
def Obligations.DigitLightsItsSegments : Prop :=
  ∀ (ign : Bool) (x y n : BitVec 16) (color : BitVec 32) (s : State),
    decode (0x08#8 ++ 0#7 ++ BitVec.ofBool ign ++ 0#16 ++ x ++ y ++ n ++ 0#16 ++ color) = .ok (.digit ign x y n color) ∧
    (n.toNat ≤ 9 → ∃ t, exec (.digit ign x y n color) s = .next t ∧
      Painted s t (color.extractLsb' 0 24) ign (GlyphPoint x.toInt y.toInt n.toNat)) ∧
    (n.toNat > 9 → exec (.digit ign x y n color) s = .next (turnedAway s))

/-- R220: the digits of n are its decimal representation without leading zeros, least significant first; 0 has the one digit 0;
a 16-bit n has 1 to 5 digits. -/
def Obligations.DecimalDigitsAreTheDigits : Prop :=
  (∀ n : Nat, decimalDigits n = if n = 0 then [0] else Nat.digits 10 n) ∧
  (∀ n : Nat, n < 2 ^ 16 → 1 ≤ (decimalDigits n).length ∧ (decimalDigits n).length ≤ 5) ∧
  (∀ n : Nat, (decimalDigits n).length = if n ≤ 9 then 1 else Nat.log 10 n + 1)

/-- R221 to R224: NUMBER draws its digits right to left from the least significant, `3 + gap` cells apart, the layout's left
edge at x; a layout with `x + W > 12` is turned away. -/
def Obligations.NumberDrawsItsDigits : Prop :=
  ∀ (ign : Bool) (x y n gap : BitVec 16) (color : BitVec 32) (s : State) (digits : List Nat) (width : Nat),
    digits = (if n.toNat = 0 then [0] else Nat.digits 10 n.toNat) →
    width = 3 * digits.length + gap.toNat * (digits.length - 1) →
    decode (0x09#8 ++ 0#7 ++ BitVec.ofBool ign ++ 0#16 ++ x ++ y ++ n ++ gap ++ color) =
      .ok (.number ign x y n gap color) ∧
    (x.toInt + width ≤ 12 → ∃ t, exec (.number ign x y n gap color) s = .next t ∧
      Painted s t (color.extractLsb' 0 24) ign (fun p => ∃ (i d : Nat), digits[i]? = some d ∧
        GlyphPoint (x.toInt + width - 3 - (i : Int) * (3 + gap.toNat)) y.toInt d p)) ∧
    (x.toInt + width > 12 → exec (.number ign x y n gap color) s = .next (turnedAway s))

/-! ### Rate, diagnostics, queries -/

/-- R236: SET_TPS stores the rate clamped to [0, 51200], with no diagnostic. -/
def Obligations.SetTpsStoresTheClampedRate : Prop :=
  ∀ (value : BitVec 32) (s : State), decode (0x0B#8 ++ 0#88 ++ value) = .ok (.setTps value) ∧
    ∃ t, exec (.setTps value) s = .next t ∧
    (t.tps.toNat : Int) = min (max value.toInt 0) 51200 ∧ t = { answered 0#32 s with tps := t.tps }

/-- R237, R240, R258, R282, R285: NOP and the queries change nothing but the response. -/
def Obligations.QueriesOnlyAnswer : Prop :=
  (decode 0#128 = .ok .nop ∧ decode (0x0C#8 ++ 0#120) = .ok .getTps ∧ decode (0x12#8 ++ 0#120) = .ok .isAnimRunning ∧
    decode (0x19#8 ++ 0#120) = .ok .getControls ∧ decode (0x1C#8 ++ 0#120) = .ok .getStatusLen) ∧
  ∀ s : State,
    exec .nop s = .next (answered 0#32 s) ∧
    exec .getTps s = .next (answered (0#16 ++ s.tps) s) ∧
    exec .isAnimRunning s = .next (answered (0#31 ++ BitVec.ofBool s.slot.active) s) ∧
    exec .getControls s = .next (answered (0#24 ++ s.controls) s) ∧
    exec .getStatusLen s = .next (answered (0#16 ++ s.statusLen) s)

/-- R241: CLEAR_DIAG answers the old DIAG and sets it to 0. -/
def Obligations.ClearDiagAnswersAndClears : Prop :=
  decode (0x0F#8 ++ 0#120) = .ok .clearDiag ∧
  ∀ s : State, exec .clearDiag s = .next { answered (0#29 ++ s.diag) s with diag := 0#3 }

/-- R307: DIAG collects the flags of every packet but a legal CLEAR_DIAG, which sets it to 0; it is 0 after reset and is read on
export word 0x091. -/
def Obligations.DiagIsSticky : Prop :=
  (∀ (i : Instr) (s t : State), exec i s = .next t → i ≠ .clearDiag →
    t.diag = s.diag ||| (BitVec.ofBool t.resp.ill ++ BitVec.ofBool t.resp.unsup ++ BitVec.ofBool t.resp.oor)) ∧
  (∀ (s t : State), exec .clearDiag s = .next t → t.diag = 0#3) ∧
  (∀ s : State, (rejectIllegal s).diag = s.diag ||| 4#3) ∧
  State.reset.diag = 0#3 ∧ (∀ s : State, exportWord s 0x091 = 0#29 ++ s.diag)

/-- R54: "No packet's behaviour depends on a flag left by an earlier packet except through ACTIVE": with another response and
another DIAG before it, a command leaves the same state but for DIAG, which it ORs (CLEAR_DIAG: but for its DATA, the old
DIAG); likewise an illegal packet. So the flags are no condition codes (00_scope.md R19). -/
def Obligations.EarlierFlagsSteerNothing : Prop :=
  ∀ (s : State) (r : Response) (d : BitVec 3),
    (∀ (i : Instr) (t : State), i ≠ .clearDiag → exec i s = .next t →
      exec i { s with resp := r, diag := d } = .next { t with
        diag := d ||| (BitVec.ofBool t.resp.ill ++ BitVec.ofBool t.resp.unsup ++ BitVec.ofBool t.resp.oor) }) ∧
    (∀ t : State, exec .clearDiag s = .next t →
      exec .clearDiag { s with resp := r, diag := d } = .next { t with resp := { t.resp with data := 0#29 ++ d } }) ∧
    rejectIllegal { s with resp := r, diag := d } = { rejectIllegal s with diag := d ||| 4#3 }

/-- R306: every response has at most one flag set, and a decoded packet's response never has ILL. -/
def Obligations.AtMostOneFlagPerResponse : Prop :=
  (∀ (i : Instr) (s t : State), exec i s = .next t → AtMostOneFlag t.resp ∧ t.resp.ill = false ∧
    (Unsupported s i → t.resp.unsup = true ∧ t.resp.oor = false ∧ t.pix = s.pix)) ∧
  (∀ s : State, AtMostOneFlag (rejectIllegal s).resp ∧ (rejectIllegal s).resp.ill = true)

/-- R302: exactly the inputs of the UNSUP table raise UNSUP, and such a packet changes no state except RESP, DIAG and BUSY, with
DATA = 0, whatever IGN is. -/
def Obligations.UnsupportedInputChangesNothing : Prop :=
  ∀ (i : Instr) (s : State), ∃ t, exec i s = .next t ∧
    (t.resp.unsup = true ↔ Unsupported s i) ∧ (Unsupported s i → t = turnedAway s)

/-- The access table of 10_state.md R53: each packet writes only the state of its row; no packet writes NOW (R36); every packet
ends with BUSY = 0. -/
def Obligations.PacketsWriteOnlyTheirState : Prop :=
  ∀ (i : Instr) (s t : State), exec i s = .next t →
    (writesPix i.op = false → t.pix = s.pix) ∧
    (i.op ≠ .setTps → t.tps = s.tps) ∧
    t.now = s.now ∧
    (writesSlot i.op = false → t.slot = s.slot) ∧
    (writesControls i.op = false → t.controls = s.controls) ∧
    (writesStatus i.op = false → t.status = s.status ∧ t.statusLen = s.statusLen) ∧
    (i.op ≠ .statusStage → t.stage = s.stage) ∧
    (writesNotify i.op = false → t.notifyCount = s.notifyCount ∧ t.notifyOut = s.notifyOut) ∧
    t.busy = false ∧
    t.beats = s.beats ∧ t.resetAsserted = s.resetAsserted ∧ t.heldStrobes = s.heldStrobes ∧ t.agenda = s.agenda ∧
    t.exportData = s.exportData ∧ t.freeCount = s.freeCount ∧ t.params = s.params

/-! ### Animation -/

/-- R256, R252: RUN_ANIM loads or replaces the slot and draws nothing; dur = 0 is turned away and leaves the slot. -/
def Obligations.RunAnimLoadsTheSlot : Prop :=
  ∀ (kind : BitVec 4) (filled : Bool) (sx sy : BitVec 8) (dur keep color : BitVec 32) (s : State),
    decode (0x10#8 ++ 0#4 ++ 0#2 ++ BitVec.ofBool filled ++ 0#1 ++ sx ++ sy ++ dur ++ keep ++ color) =
      .ok (.runAnim 0 filled sx sy dur keep color) ∧
    (kind ≠ 0 → decode (0x10#8 ++ kind ++ 0#2 ++ BitVec.ofBool filled ++ 0#1 ++ sx ++ sy ++ dur ++ keep ++ color) =
      .illegal .kindNotSplash) ∧
    (dur.toNat ≠ 0 → ∃ t, exec (.runAnim kind filled sx sy dur keep color) s = .next t ∧
      (t.slot.maxr.toNat : Int) = max (max sy.toInt (11 - sy.toInt)) (max sx.toInt (11 - sx.toInt)) + 2 ∧
      8 ≤ t.slot.maxr.toNat ∧ t.slot.maxr.toNat ≤ 141 ∧
      t = { answered 0#32 s with slot := {
        active := true, kind := kind, sx := sx, sy := sy, scolor := color.extractLsb' 0 24, sfill := filled,
        maxr := t.slot.maxr, duration := dur, keep := keep, start := s.now } }) ∧
    (dur.toNat = 0 → exec (.runAnim kind filled sx sy dur keep color) s = .next (turnedAway s))

/-- R257, R263: STOP_ANIM sets every slot register to 0 and leaves everything else, the pixels included. -/
def Obligations.StopAnimReleasesTheSlot : Prop :=
  decode (0x11#8 ++ 0#120) = .ok .stopAnim ∧
  ∀ s : State, exec .stopAnim s = .next { answered 0#32 s with slot := {
    active := false, kind := 0, sx := 0, sy := 0, scolor := 0, sfill := false, maxr := 0, duration := 0, keep := 0,
    start := 0 } }

/-- R259, R253, R260: TICK does nothing when Idle; when Running it draws the frame of the elapsed time (cleared first unless
SFILL), answers RAN, FINISHED and RETIRED, and releases the slot exactly when `el > DURATION + KEEP`. -/
def Obligations.TickDrawsAndRetires : Prop :=
  decode (0x13#8 ++ 0#120) = .ok .tick ∧
  ∀ (s : State) (el : Nat), el = (s.now.toNat + (2 ^ 64 - s.slot.start.toNat)) % 2 ^ 64 →
    (s.slot.active = false → exec .tick s = .next (answered 0#32 s)) ∧
    (s.slot.active = true → 1 ≤ s.slot.duration.toNat → ∃ t, exec .tick s = .next t ∧
      (∀ x y, InGrid x y → SplashRing s el (x, y) → pixRead t.pix x y = s.slot.scolor) ∧
      (∀ x y, InGrid x y → ¬ SplashRing s el (x, y) →
        pixRead t.pix x y = if s.slot.sfill = true then pixRead s.pix x y else 0#24) ∧
      t = { answered
              (if el ≤ s.slot.duration.toNat then 1#32
               else if el ≤ s.slot.duration.toNat + s.slot.keep.toNat then 3#32 else 7#32) s with
        pix := t.pix
        slot := if el > s.slot.duration.toNat + s.slot.keep.toNat then Slot.idle else s.slot })

/-- R261: two TICKs at one NOW give one picture, one slot and one answer, as long as the first did not retire the slot. -/
def Obligations.TickAgainGivesTheSamePicture : Prop :=
  ∀ s t u : State, exec .tick s = .next t → t.slot.active = true → exec .tick t = .next u →
    u.pix = t.pix ∧ u.slot = t.slot ∧ u.resp = t.resp

/-- R336: a TICK in the millisecond of its RUN_ANIM draws the centre cell alone. -/
def Obligations.TickInTheSameMillisecondDrawsTheCentre : Prop :=
  ∀ s : State, s.slot.active = true → 1 ≤ s.slot.duration.toNat → s.now = s.slot.start →
    ∃ t, exec .tick s = .next t ∧ t.slot = s.slot ∧ t.resp.data = 1#32 ∧
      ∀ x y, InGrid x y → pixRead t.pix x y =
        if x = s.slot.sx.toInt ∧ y = s.slot.sy.toInt then s.slot.scolor
        else if s.slot.sfill = true then pixRead s.pix x y else 0#24

/-- R266: for a centre in the grid and a radius MAXR * el / DURATION of at least 17, every sample is off the grid, so a TICK
writes nothing but the clear. -/
def Obligations.FarRingWritesNothingButTheClear : Prop :=
  ∀ (s : State) (el : Nat), el = (s.now.toNat + (2 ^ 64 - s.slot.start.toNat)) % 2 ^ 64 →
    s.slot.active = true → 1 ≤ s.slot.duration.toNat → InGrid s.slot.sx.toInt s.slot.sy.toInt →
    17 * s.slot.duration.toNat ≤ s.slot.maxr.toNat * el →
    ∃ t, exec .tick s = .next t ∧
      ∀ x y, InGrid x y → pixRead t.pix x y = if s.slot.sfill = true then pixRead s.pix x y else 0#24

/-! ### Control state -/

/-- R281: SET_CONTROLS replaces the mask and notifies, whatever the mask was. -/
def Obligations.SetControlsReplacesAndNotifies : Prop :=
  ∀ (value : BitVec 32) (s : State),
    (∀ m : BitVec 8, decode (0x18#8 ++ 0#112 ++ m) = .ok (.setControls (0#24 ++ m))) ∧
    exec (.setControls value) s = .next { answered 0#32 s with
      controls := value.extractLsb' 0 8, notifyCount := s.notifyCount + 1#32, notifyOut := true }

/-- R283: STATUS_STAGE writes its COUNT bytes at OFFSET and no other byte of STAGE; a COUNT above 8 or a run past STATUS_CAP is
turned away. The canonical form of STAGE is part of the invariant. -/
def Obligations.StatusStageWritesItsBytes : Prop :=
  ∀ (offset : BitVec 16) (count : BitVec 8) (bytes : BitVec 64) (s : State), Memory.wf s.stage = true →
    decode (0x1A#8 ++ 0#8 ++ offset ++ count ++ 0#24 ++ bytes) = .ok (.statusStage offset count bytes) ∧
    (count.toNat ≤ 8 → offset.toNat + count.toNat ≤ s.params.statusCap →
      ∃ t, exec (.statusStage offset count bytes) s = .next t ∧
        (∀ a, Memory.read t.stage a =
          if offset.toNat ≤ a ∧ a < offset.toNat + count.toNat then bytes.extractLsb' (8 * (a - offset.toNat)) 8
          else Memory.read s.stage a) ∧
        t = { answered 0#32 s with stage := t.stage }) ∧
    (count.toNat > 8 ∨ offset.toNat + count.toNat > s.params.statusCap →
      exec (.statusStage offset count bytes) s = .next (turnedAway s))

/-- R284: STATUS_COMMIT replaces STATUS wholesale by the first LEN bytes of STAGE and 0x00 above them, sets STATUS_LEN and
notifies; a LEN above STATUS_CAP is turned away. -/
def Obligations.StatusCommitReplacesWholesale : Prop :=
  ∀ (len : BitVec 16) (s : State),
    decode (0x1B#8 ++ 0#8 ++ len ++ 0#96) = .ok (.statusCommit len) ∧
    (len.toNat ≤ s.params.statusCap → ∃ t, exec (.statusCommit len) s = .next t ∧
      (∀ a, Memory.read t.status a = if a < len.toNat then Memory.read s.stage a else 0#8) ∧
      t = { answered 0#32 s with
        status := t.status, statusLen := len, notifyCount := s.notifyCount + 1#32, notifyOut := true }) ∧
    (len.toNat > s.params.statusCap → exec (.statusCommit len) s = .next (turnedAway s))

/-- R286: CTRL_RESET empties the status, sets CONTROLS to 0 and notifies once; nothing else changes. -/
def Obligations.CtrlResetEmptiesControlState : Prop :=
  decode (0x1D#8 ++ 0#120) = .ok .ctrlReset ∧
  ∀ s : State, ∃ t, exec .ctrlReset s = .next t ∧ (∀ a, Memory.read t.status a = 0#8) ∧
    t = { answered 0#32 s with
      status := t.status, statusLen := 0#16, controls := 0#8, notifyCount := s.notifyCount + 1#32, notifyOut := true }

/-- R280: `notify()` is called once by each SET_CONTROLS, STATUS_COMMIT and CTRL_RESET that replaces its field, and by nothing
else. -/
def Obligations.NotifyCountsEachReplacementOnce : Prop :=
  (∀ (i : Instr) (s t : State), exec i s = .next t →
    (writesNotify i.op = true → ¬ Unsupported s i → t.notifyCount = s.notifyCount + 1#32 ∧ t.notifyOut = true) ∧
    (writesNotify i.op = false ∨ Unsupported s i → t.notifyCount = s.notifyCount ∧ t.notifyOut = s.notifyOut)) ∧
  (∀ s : State, (rejectIllegal s).notifyCount = s.notifyCount ∧ (rejectIllegal s).notifyOut = s.notifyOut)

/-- R125, R287: `SET_STATUS "s"` leaves STATUS = s and STATUS_LEN its byte length, for every string that fits, and notifies
once. -/
def Obligations.SetStatusPseudoInstruction : Prop :=
  ∀ (bytes : List Byte) (s : State), Memory.wf s.stage = true → bytes.length ≤ s.params.statusCap →
    s.params.statusCap ≤ 15360 →
    ∃ t, executeAll (expandSetStatus bytes) s = some t ∧
      (∀ i, Memory.read t.status i = bytes.getD i 0#8) ∧ t.statusLen.toNat = bytes.length ∧
      t.notifyCount = s.notifyCount + 1#32 ∧
      t = { answered 0#32 s with
        status := t.status, statusLen := t.statusLen, stage := t.stage, notifyCount := t.notifyCount, notifyOut := true }
end

