-- ==== Sys2Proof/Laws/Encoding.lean ====
section
/-! SUPPORT. Cutting a packet into fields and joining them are inverse; the opcode byte and the mnemonic are one-to-one. -/

namespace Sys2Proof

theorem extractLsb'_append_low {w v : Nat} (x : BitVec w) (y : BitVec v) (lo len : Nat) (h : lo + len ≤ v) :
    (x ++ y).extractLsb' lo len = y.extractLsb' lo len := by
  apply BitVec.eq_of_getLsbD_eq
  intro i hi
  simp only [BitVec.getLsbD_extractLsb', hi, decide_true, Bool.true_and, BitVec.getLsbD_append]
  rw [if_pos (by omega)]

theorem extractLsb'_append_high {w v : Nat} (x : BitVec w) (y : BitVec v) (lo len : Nat) (h : v ≤ lo) :
    (x ++ y).extractLsb' lo len = x.extractLsb' (lo - v) len := by
  apply BitVec.eq_of_getLsbD_eq
  intro i hi
  simp only [BitVec.getLsbD_extractLsb', hi, decide_true, Bool.true_and, BitVec.getLsbD_append]
  rw [if_neg (by omega)]
  congr 1
  omega

theorem getLsbD_append_low {w v : Nat} (x : BitVec w) (y : BitVec v) (i : Nat) (h : i < v) :
    (x ++ y).getLsbD i = y.getLsbD i := by rw [BitVec.getLsbD_append, if_pos h]

theorem getLsbD_append_high {w v : Nat} (x : BitVec w) (y : BitVec v) (i : Nat) (h : v ≤ i) :
    (x ++ y).getLsbD i = x.getLsbD (i - v) := by rw [BitVec.getLsbD_append, if_neg (by omega)]

theorem extractLsb'_whole {w : Nat} (x : BitVec w) : x.extractLsb' 0 w = x := by simp

/-- Two neighbouring fields of a word are one wider field. -/
theorem extractLsb'_glue {w : Nat} (p : BitVec w) (n m k : Nat) :
    p.extractLsb' (k + m) n ++ p.extractLsb' k m = p.extractLsb' k (n + m) := by
  apply BitVec.eq_of_getLsbD_eq
  intro i hi
  simp only [BitVec.getLsbD_append, BitVec.getLsbD_extractLsb', hi, decide_true, Bool.true_and]
  by_cases h : i < m
  · simp [h]
  · rw [if_neg h, show decide (i - m < n) = true by simp; omega, Bool.true_and]
    congr 1
    omega

theorem ofBool_getLsbD {w : Nat} (p : BitVec w) (k : Nat) : BitVec.ofBool (p.getLsbD k) = p.extractLsb' k 1 := by
  apply BitVec.eq_of_getLsbD_eq
  intro i hi
  obtain rfl : i = 0 := by omega
  simp

/-- The fields of a joined packet are the fields joined. -/
theorem splitPacket_joinFields (f : Fields) : splitPacket (joinFields f) = f := by
  obtain ⟨opc, kind, rsv, fill, ign, hi, a, b, c, d, color⟩ := f
  simp only [splitPacket, joinFields, Fields.mk.injEq]
  refine ⟨?_, ?_, ?_, ?_, ?_, ?_, ?_, ?_, ?_, ?_, ?_⟩
  all_goals
    repeat first
      | rw [extractLsb'_append_low _ _ _ _ (by decide)]
      | rw [extractLsb'_append_high _ _ _ _ (by decide)]
      | rw [getLsbD_append_low _ _ _ (by decide)]
      | rw [getLsbD_append_high _ _ _ (by decide)]
    first | exact extractLsb'_whole _ | simp

/-- Joining the fields of a packet gives it back: no bit lies outside the fields (30_encoding.md R101). -/
theorem joinFields_splitPacket (p : Packet) : joinFields (splitPacket p) = p := by
  simp only [splitPacket, joinFields, ofBool_getLsbD]
  rw [extractLsb'_glue p 8 4 116, extractLsb'_glue p _ 2 114, extractLsb'_glue p _ 1 113, extractLsb'_glue p _ 1 112,
    extractLsb'_glue p _ 16 96, extractLsb'_glue p _ 16 80, extractLsb'_glue p _ 16 64, extractLsb'_glue p _ 16 48,
    extractLsb'_glue p _ 16 32, extractLsb'_glue p _ 32 0]
  exact extractLsb'_whole p

/-- Every mnemonic's opcode byte decodes to it. -/
theorem opOfCode_code (op : Op) : opOfCode op.code = some op := by cases op <;> decide

/-- An opcode byte that decodes is that of its mnemonic. -/
theorem code_of_opOfCode {c : BitVec 8} {op : Op} (h : opOfCode c = some op) : op.code = c := by
  have := List.find?_some h
  simpa using this

/-- A command built from fields is one of its opcode. -/
@[simp] theorem op_buildInstr (op : Op) (f : Fields) : (buildInstr op f).op = op := by cases op <;> rfl

end Sys2Proof
end

