-- ==== Sys2Proof/Laws/Memory.lean ====
section
/-! SUPPORT. The byte memory: what a read gives after each operation, and that every operation keeps the canonical form. -/

namespace Sys2Proof.Machine

@[simp] theorem Memory.read_nil (a : Nat) : Memory.read [] a = 0#8 := rfl

theorem Memory.read_cons (k : Nat) (v : Byte) (m : Memory) (a : Nat) :
    Memory.read ((k, v) :: m) a = if k = a then v else Memory.read m a := rfl

theorem Memory.above_of_le {a b : Nat} (h : a ≤ b) : ∀ {m : Memory}, Memory.above b m = true → Memory.above a m = true
  | [], _ => rfl
  | (k, v) :: m, hm => by
    simp only [Memory.above, Bool.and_eq_true, decide_eq_true_eq] at hm ⊢
    exact ⟨by omega, above_of_le h hm.2⟩

/-- Nothing is stored at or below an address that every listed address lies above. -/
theorem Memory.read_of_above {a b : Nat} (hab : b ≤ a) : ∀ {m : Memory}, Memory.above a m = true → Memory.read m b = 0#8
  | [], _ => rfl
  | (k, v) :: m, hm => by
    simp only [Memory.above, Bool.and_eq_true, decide_eq_true_eq] at hm
    rw [Memory.read_cons, if_neg (by omega), read_of_above hab hm.2]

theorem Memory.wf_cons {k : Nat} {v : Byte} {m : Memory} :
    Memory.wf ((k, v) :: m) = true ↔ v ≠ 0#8 ∧ Memory.above k m = true ∧ Memory.wf m = true := by
  simp [Memory.wf, and_assoc]

/-- A read after a write: the stored byte at its address, the old byte elsewhere. -/
theorem Memory.read_write (a b : Nat) (v : Byte) :
    ∀ {m : Memory}, Memory.wf m = true → Memory.read (Memory.write m a v) b = if b = a then v else Memory.read m b
  | [], _ => by
    by_cases hv : v = 0#8 <;> by_cases hb : b = a <;> simp [Memory.write, Memory.read, hv, hb]
    omega
  | (k, w) :: m, hm => by
    obtain ⟨_, hk, hm'⟩ := Memory.wf_cons.mp hm
    have hzero : ∀ c, c ≤ k → Memory.read m c = 0#8 := fun c hc => Memory.read_of_above hc hk
    rw [Memory.write]
    by_cases h1 : a < k
    · rw [if_pos h1]
      by_cases hv : v = 0#8
      · rw [if_pos hv]
        by_cases hb : b = a
        · rw [if_pos hb, Memory.read_cons, if_neg (by omega), hzero b (by omega), hv]
        · rw [if_neg hb]
      · rw [if_neg hv, Memory.read_cons]; simp only [eq_comm]
    · rw [if_neg h1]
      by_cases h2 : a = k
      · subst h2
        rw [if_pos rfl]
        by_cases hv : v = 0#8
        · rw [if_pos hv]
          by_cases hb : b = a
          · rw [if_pos hb, hzero b (by omega), hv]
          · rw [if_neg hb, Memory.read_cons, if_neg (Ne.symm hb)]
        · rw [if_neg hv, Memory.read_cons, Memory.read_cons]
          by_cases hb : b = a
          · rw [if_pos hb, if_pos hb.symm]
          · rw [if_neg hb, if_neg (Ne.symm hb), if_neg (Ne.symm hb)]
      · rw [if_neg h2, Memory.read_cons, Memory.read_cons, read_write a b v hm']
        by_cases hb : b = a
        · subst hb; rw [if_neg (Ne.symm h2), if_pos rfl, if_pos rfl]
        · rw [if_neg hb, if_neg hb]

theorem Memory.above_write {c a : Nat} (v : Byte) (hca : c < a) :
    ∀ {m : Memory}, Memory.above c m = true → Memory.above c (Memory.write m a v) = true
  | [], _ => by by_cases hv : v = 0#8 <;> simp [Memory.write, Memory.above, hv, hca]
  | (k, w) :: m, hm => by
    have hm' := hm
    simp only [Memory.above, Bool.and_eq_true, decide_eq_true_eq] at hm'
    simp only [Memory.write]
    split_ifs <;> simp [Memory.above, hca, hm'.1, hm'.2, above_write v hca hm'.2]

/-- A write keeps the canonical form. -/
theorem Memory.wf_write (a : Nat) (v : Byte) :
    ∀ {m : Memory}, Memory.wf m = true → Memory.wf (Memory.write m a v) = true
  | [], _ => by by_cases hv : v = 0#8 <;> simp [Memory.write, Memory.wf, Memory.above, hv]
  | (k, w) :: m, hm => by
    obtain ⟨hw, hk, hm'⟩ := Memory.wf_cons.mp hm
    simp only [Memory.write]
    split_ifs with h1 h2 h3 h4
    · exact hm
    · exact Memory.wf_cons.mpr ⟨h2, by simp [Memory.above, h1, Memory.above_of_le (Nat.le_of_lt h1) hk], hm⟩
    · exact hm'
    · subst h3; exact Memory.wf_cons.mpr ⟨h4, hk, hm'⟩
    · exact Memory.wf_cons.mpr ⟨hw, Memory.above_write v (by omega) hk, wf_write a v hm'⟩

theorem Memory.below_write {cap a : Nat} (v : Byte) (ha : a < cap) :
    ∀ {m : Memory}, Memory.below cap m = true → Memory.below cap (Memory.write m a v) = true
  | [], _ => by by_cases hv : v = 0#8 <;> simp [Memory.write, Memory.below, hv, ha]
  | (k, w) :: m, hm => by
    have hm' := hm
    simp only [Memory.below, Bool.and_eq_true, decide_eq_true_eq] at hm'
    simp only [Memory.write]
    split_ifs <;> simp [Memory.below, ha, hm'.1, hm'.2, below_write v ha hm'.2]

theorem Memory.writeRun_succ (m : Memory) (a : Nat) (f : Nat → Byte) (n : Nat) :
    Memory.writeRun m a f (n + 1) = Memory.write (Memory.writeRun m a f n) (a + n) (f n) := by
  simp [Memory.writeRun, List.range_succ]

theorem Memory.wf_writeRun {m : Memory} (a : Nat) (f : Nat → Byte) (n : Nat) (hm : Memory.wf m = true) :
    Memory.wf (Memory.writeRun m a f n) = true := by
  induction n with
  | zero => simpa [Memory.writeRun] using hm
  | succ n ih => rw [Memory.writeRun_succ]; exact Memory.wf_write _ _ ih

/-- A read after a run of writes: the run's byte inside it, the old byte outside. -/
theorem Memory.read_writeRun {m : Memory} (a : Nat) (f : Nat → Byte) (n b : Nat) (hm : Memory.wf m = true) :
    Memory.read (Memory.writeRun m a f n) b = if a ≤ b ∧ b < a + n then f (b - a) else Memory.read m b := by
  induction n with
  | zero => rw [if_neg (by omega)]; rfl
  | succ n ih =>
    rw [Memory.writeRun_succ, Memory.read_write _ _ _ (Memory.wf_writeRun a f n hm), ih]
    by_cases hb : b = a + n
    · subst hb; simp
    · by_cases h : a ≤ b ∧ b < a + n
      · rw [if_neg hb, if_pos h, if_pos (by omega)]
      · rw [if_neg hb, if_neg h, if_neg (by omega)]

theorem Memory.below_writeRun {m : Memory} {cap a : Nat} (f : Nat → Byte) (n : Nat) (hm : Memory.below cap m = true)
    (ha : a + n ≤ cap) : Memory.below cap (Memory.writeRun m a f n) = true := by
  induction n with
  | zero => simpa [Memory.writeRun] using hm
  | succ n ih =>
    rw [Memory.writeRun_succ]; exact Memory.below_write _ (by omega) (ih (by omega))

/-- A read below the cut gives the old byte, a read from the cut up gives 0x00; the form of `m` does not matter. -/
theorem Memory.read_takeBelow (len b : Nat) :
    ∀ m : Memory, Memory.read (Memory.takeBelow m len) b = if b < len then Memory.read m b else 0#8
  | [] => by simp [Memory.takeBelow, Memory.read]
  | (k, v) :: m => by
    have ih := read_takeBelow len b m
    simp only [Memory.takeBelow] at ih
    simp only [Memory.takeBelow, List.filter_cons, Memory.read]
    by_cases hk : k < len
    · by_cases hkb : k = b
      · subst hkb; simp [hk, Memory.read]
      · simp [hk, hkb, Memory.read, ih]
    · by_cases hkb : k = b
      · subst hkb; simp [hk, ih]
      · simp [hk, hkb, ih]

theorem Memory.above_takeBelow (len a : Nat) :
    ∀ {m : Memory}, Memory.above a m = true → Memory.above a (Memory.takeBelow m len) = true
  | [], _ => rfl
  | (k, v) :: m, hm => by
    simp only [Memory.above, Bool.and_eq_true, decide_eq_true_eq] at hm
    have ih := above_takeBelow len a hm.2
    simp only [Memory.takeBelow] at ih
    simp only [Memory.takeBelow, List.filter_cons]
    by_cases hk : k < len <;> simp [hk, Memory.above, hm.1, ih]

/-- Cutting keeps the canonical form. -/
theorem Memory.wf_takeBelow (len : Nat) :
    ∀ {m : Memory}, Memory.wf m = true → Memory.wf (Memory.takeBelow m len) = true
  | [], _ => rfl
  | (k, v) :: m, hm => by
    obtain ⟨hv, hk, hm'⟩ := Memory.wf_cons.mp hm
    have ih := wf_takeBelow len hm'
    have ha := Memory.above_takeBelow len k hk
    simp only [Memory.takeBelow] at ih ha
    simp only [Memory.takeBelow, List.filter_cons]
    by_cases hkl : k < len
    · simp only [hkl, decide_true, if_true]; exact Memory.wf_cons.mpr ⟨hv, ha, ih⟩
    · simpa [hkl] using ih

end Sys2Proof.Machine
end

