-- ==== Sys2Proof/Laws/PerInstr.lean ====
section
/-! SUPPORT. Facts stated per command, one lemma per constructor of Instr. -/

namespace Sys2Proof.Laws

/-- The opcode byte of a command's packet is the one 30_encoding.md R112 assigns to its mnemonic. -/
def EncodedOpcode.Statement (i : Instr) : Prop := (encode i).extractLsb' 120 8 = i.op.code

theorem EncodedOpcode.of_fields (i : Instr) (h : (encodeFields i).opc = i.op.code) : EncodedOpcode.Statement i := by
  have := congrArg Fields.opc (splitPacket_joinFields (encodeFields i))
  rw [h] at this
  exact this

theorem EncodedOpcode.nop : EncodedOpcode.Statement (.nop) := EncodedOpcode.of_fields _ rfl
theorem EncodedOpcode.set (ign : Bool) (x : BitVec 16) (y : BitVec 16) (color : BitVec 32) :
    EncodedOpcode.Statement (.set ign x y color) := EncodedOpcode.of_fields _ rfl
theorem EncodedOpcode.off (ign : Bool) (x : BitVec 16) (y : BitVec 16) :
    EncodedOpcode.Statement (.off ign x y) := EncodedOpcode.of_fields _ rfl
theorem EncodedOpcode.fill (color : BitVec 32) : EncodedOpcode.Statement (.fill color) := EncodedOpcode.of_fields _ rfl
theorem EncodedOpcode.clear : EncodedOpcode.Statement (.clear) := EncodedOpcode.of_fields _ rfl
theorem EncodedOpcode.line (ign : Bool) (x1 : BitVec 16) (y1 : BitVec 16) (x2 : BitVec 16) (y2 : BitVec 16)
    (color : BitVec 32) :
    EncodedOpcode.Statement (.line ign x1 y1 x2 y2 color) := EncodedOpcode.of_fields _ rfl
theorem EncodedOpcode.rect (filled : Bool) (ign : Bool) (x : BitVec 16) (y : BitVec 16) (w : BitVec 16)
    (h : BitVec 16) (color : BitVec 32) :
    EncodedOpcode.Statement (.rect filled ign x y w h color) := EncodedOpcode.of_fields _ rfl
theorem EncodedOpcode.circle (filled : Bool) (ign : Bool) (x : BitVec 16) (y : BitVec 16) (r : BitVec 16)
    (step : BitVec 16) (color : BitVec 32) :
    EncodedOpcode.Statement (.circle filled ign x y r step color) := EncodedOpcode.of_fields _ rfl
theorem EncodedOpcode.digit (ign : Bool) (x : BitVec 16) (y : BitVec 16) (n : BitVec 16) (color : BitVec 32) :
    EncodedOpcode.Statement (.digit ign x y n color) := EncodedOpcode.of_fields _ rfl
theorem EncodedOpcode.number (ign : Bool) (x : BitVec 16) (y : BitVec 16) (n : BitVec 16) (gap : BitVec 16)
    (color : BitVec 32) :
    EncodedOpcode.Statement (.number ign x y n gap color) := EncodedOpcode.of_fields _ rfl
theorem EncodedOpcode.getPixel (ign : Bool) (x : BitVec 16) (y : BitVec 16) :
    EncodedOpcode.Statement (.getPixel ign x y) := EncodedOpcode.of_fields _ rfl
theorem EncodedOpcode.setTps (value : BitVec 32) :
    EncodedOpcode.Statement (.setTps value) := EncodedOpcode.of_fields _ rfl
theorem EncodedOpcode.getTps : EncodedOpcode.Statement (.getTps) := EncodedOpcode.of_fields _ rfl
theorem EncodedOpcode.clearDiag : EncodedOpcode.Statement (.clearDiag) := EncodedOpcode.of_fields _ rfl
theorem EncodedOpcode.runAnim (kind : BitVec 4) (filled : Bool) (sx : BitVec 8) (sy : BitVec 8)
    (dur : BitVec 32) (keep : BitVec 32) (color : BitVec 32) :
    EncodedOpcode.Statement (.runAnim kind filled sx sy dur keep color) := EncodedOpcode.of_fields _ rfl
theorem EncodedOpcode.stopAnim : EncodedOpcode.Statement (.stopAnim) := EncodedOpcode.of_fields _ rfl
theorem EncodedOpcode.isAnimRunning : EncodedOpcode.Statement (.isAnimRunning) := EncodedOpcode.of_fields _ rfl
theorem EncodedOpcode.tick : EncodedOpcode.Statement (.tick) := EncodedOpcode.of_fields _ rfl
theorem EncodedOpcode.setControls (value : BitVec 32) :
    EncodedOpcode.Statement (.setControls value) := EncodedOpcode.of_fields _ rfl
theorem EncodedOpcode.getControls : EncodedOpcode.Statement (.getControls) := EncodedOpcode.of_fields _ rfl
theorem EncodedOpcode.statusStage (offset : BitVec 16) (count : BitVec 8) (bytes : BitVec 64) :
    EncodedOpcode.Statement (.statusStage offset count bytes) := EncodedOpcode.of_fields _ rfl
theorem EncodedOpcode.statusCommit (len : BitVec 16) :
    EncodedOpcode.Statement (.statusCommit len) := EncodedOpcode.of_fields _ rfl
theorem EncodedOpcode.getStatusLen : EncodedOpcode.Statement (.getStatusLen) := EncodedOpcode.of_fields _ rfl
theorem EncodedOpcode.ctrlReset : EncodedOpcode.Statement (.ctrlReset) := EncodedOpcode.of_fields _ rfl

end Sys2Proof.Laws
end

