-- ==== Sys2Proof/Laws/State.lean ====
section
/-! SUPPORT. One lemma per field per named update of State, true by rfl, for simp: later proofs unfold no update. -/

namespace Sys2Proof.Machine

@[simp] theorem complete_pix (r : Response) (s : State) : (complete r s).pix = s.pix := rfl
@[simp] theorem complete_tps (r : Response) (s : State) : (complete r s).tps = s.tps := rfl
@[simp] theorem complete_diag (r : Response) (s : State) : (complete r s).diag = s.diag := rfl
@[simp] theorem complete_now (r : Response) (s : State) : (complete r s).now = s.now := rfl
@[simp] theorem complete_slot (r : Response) (s : State) : (complete r s).slot = s.slot := rfl
@[simp] theorem complete_controls (r : Response) (s : State) : (complete r s).controls = s.controls := rfl
@[simp] theorem complete_status (r : Response) (s : State) : (complete r s).status = s.status := rfl
@[simp] theorem complete_statusLen (r : Response) (s : State) : (complete r s).statusLen = s.statusLen := rfl
@[simp] theorem complete_stage (r : Response) (s : State) : (complete r s).stage = s.stage := rfl
@[simp] theorem complete_notifyCount (r : Response) (s : State) : (complete r s).notifyCount = s.notifyCount := rfl
@[simp] theorem complete_resp (r : Response) (s : State) : (complete r s).resp = r := rfl
@[simp] theorem complete_notifyOut (r : Response) (s : State) : (complete r s).notifyOut = s.notifyOut := rfl
@[simp] theorem complete_inFlight (r : Response) (s : State) : (complete r s).inFlight = none := rfl
@[simp] theorem complete_beats (r : Response) (s : State) : (complete r s).beats = s.beats := rfl
@[simp] theorem complete_resetAsserted (r : Response) (s : State) :
    (complete r s).resetAsserted = s.resetAsserted := rfl
@[simp] theorem complete_heldStrobes (r : Response) (s : State) : (complete r s).heldStrobes = s.heldStrobes := rfl
@[simp] theorem complete_agenda (r : Response) (s : State) : (complete r s).agenda = s.agenda := rfl
@[simp] theorem complete_exportData (r : Response) (s : State) : (complete r s).exportData = s.exportData := rfl
@[simp] theorem complete_freeCount (r : Response) (s : State) : (complete r s).freeCount = s.freeCount := rfl
@[simp] theorem complete_params (r : Response) (s : State) : (complete r s).params = s.params := rfl

@[simp] theorem respond_pix (r : Response) (s : State) : (respond r s).pix = s.pix := rfl
@[simp] theorem respond_tps (r : Response) (s : State) : (respond r s).tps = s.tps := rfl
@[simp] theorem respond_diag (r : Response) (s : State) : (respond r s).diag = stickyDiag s.diag r := rfl
@[simp] theorem respond_now (r : Response) (s : State) : (respond r s).now = s.now := rfl
@[simp] theorem respond_slot (r : Response) (s : State) : (respond r s).slot = s.slot := rfl
@[simp] theorem respond_controls (r : Response) (s : State) : (respond r s).controls = s.controls := rfl
@[simp] theorem respond_status (r : Response) (s : State) : (respond r s).status = s.status := rfl
@[simp] theorem respond_statusLen (r : Response) (s : State) : (respond r s).statusLen = s.statusLen := rfl
@[simp] theorem respond_stage (r : Response) (s : State) : (respond r s).stage = s.stage := rfl
@[simp] theorem respond_notifyCount (r : Response) (s : State) : (respond r s).notifyCount = s.notifyCount := rfl
@[simp] theorem respond_resp (r : Response) (s : State) : (respond r s).resp = r := rfl
@[simp] theorem respond_notifyOut (r : Response) (s : State) : (respond r s).notifyOut = s.notifyOut := rfl
@[simp] theorem respond_inFlight (r : Response) (s : State) : (respond r s).inFlight = none := rfl
@[simp] theorem respond_beats (r : Response) (s : State) : (respond r s).beats = s.beats := rfl
@[simp] theorem respond_resetAsserted (r : Response) (s : State) : (respond r s).resetAsserted = s.resetAsserted := rfl
@[simp] theorem respond_heldStrobes (r : Response) (s : State) : (respond r s).heldStrobes = s.heldStrobes := rfl
@[simp] theorem respond_agenda (r : Response) (s : State) : (respond r s).agenda = s.agenda := rfl
@[simp] theorem respond_exportData (r : Response) (s : State) : (respond r s).exportData = s.exportData := rfl
@[simp] theorem respond_freeCount (r : Response) (s : State) : (respond r s).freeCount = s.freeCount := rfl
@[simp] theorem respond_params (r : Response) (s : State) : (respond r s).params = s.params := rfl

@[simp] theorem release_pix (s : State) : (release s).pix = s.pix := rfl
@[simp] theorem release_tps (s : State) : (release s).tps = s.tps := rfl
@[simp] theorem release_diag (s : State) : (release s).diag = s.diag := rfl
@[simp] theorem release_now (s : State) : (release s).now = s.now := rfl
@[simp] theorem release_slot (s : State) : (release s).slot = Slot.idle := rfl
@[simp] theorem release_controls (s : State) : (release s).controls = s.controls := rfl
@[simp] theorem release_status (s : State) : (release s).status = s.status := rfl
@[simp] theorem release_statusLen (s : State) : (release s).statusLen = s.statusLen := rfl
@[simp] theorem release_stage (s : State) : (release s).stage = s.stage := rfl
@[simp] theorem release_notifyCount (s : State) : (release s).notifyCount = s.notifyCount := rfl
@[simp] theorem release_resp (s : State) : (release s).resp = s.resp := rfl
@[simp] theorem release_notifyOut (s : State) : (release s).notifyOut = s.notifyOut := rfl
@[simp] theorem release_inFlight (s : State) : (release s).inFlight = s.inFlight := rfl
@[simp] theorem release_beats (s : State) : (release s).beats = s.beats := rfl
@[simp] theorem release_resetAsserted (s : State) : (release s).resetAsserted = s.resetAsserted := rfl
@[simp] theorem release_heldStrobes (s : State) : (release s).heldStrobes = s.heldStrobes := rfl
@[simp] theorem release_agenda (s : State) : (release s).agenda = s.agenda := rfl
@[simp] theorem release_exportData (s : State) : (release s).exportData = s.exportData := rfl
@[simp] theorem release_freeCount (s : State) : (release s).freeCount = s.freeCount := rfl
@[simp] theorem release_params (s : State) : (release s).params = s.params := rfl

@[simp] theorem notify_pix (s : State) : (notify s).pix = s.pix := rfl
@[simp] theorem notify_tps (s : State) : (notify s).tps = s.tps := rfl
@[simp] theorem notify_diag (s : State) : (notify s).diag = s.diag := rfl
@[simp] theorem notify_now (s : State) : (notify s).now = s.now := rfl
@[simp] theorem notify_slot (s : State) : (notify s).slot = s.slot := rfl
@[simp] theorem notify_controls (s : State) : (notify s).controls = s.controls := rfl
@[simp] theorem notify_status (s : State) : (notify s).status = s.status := rfl
@[simp] theorem notify_statusLen (s : State) : (notify s).statusLen = s.statusLen := rfl
@[simp] theorem notify_stage (s : State) : (notify s).stage = s.stage := rfl
@[simp] theorem notify_notifyCount (s : State) : (notify s).notifyCount = s.notifyCount + 1#32 := rfl
@[simp] theorem notify_resp (s : State) : (notify s).resp = s.resp := rfl
@[simp] theorem notify_notifyOut (s : State) : (notify s).notifyOut = true := rfl
@[simp] theorem notify_inFlight (s : State) : (notify s).inFlight = s.inFlight := rfl
@[simp] theorem notify_beats (s : State) : (notify s).beats = s.beats := rfl
@[simp] theorem notify_resetAsserted (s : State) : (notify s).resetAsserted = s.resetAsserted := rfl
@[simp] theorem notify_heldStrobes (s : State) : (notify s).heldStrobes = s.heldStrobes := rfl
@[simp] theorem notify_agenda (s : State) : (notify s).agenda = s.agenda := rfl
@[simp] theorem notify_exportData (s : State) : (notify s).exportData = s.exportData := rfl
@[simp] theorem notify_freeCount (s : State) : (notify s).freeCount = s.freeCount := rfl
@[simp] theorem notify_params (s : State) : (notify s).params = s.params := rfl

@[simp] theorem drawAndRespond_pix (c : Colour) (ign : Bool) (points : List Point) (s : State) :
    (drawAndRespond c ign points s).pix = (paint c ign points ⟨s.pix, false⟩).pix := rfl
@[simp] theorem drawAndRespond_tps (c : Colour) (ign : Bool) (points : List Point) (s : State) :
    (drawAndRespond c ign points s).tps = s.tps := rfl
@[simp] theorem drawAndRespond_diag (c : Colour) (ign : Bool) (points : List Point) (s : State) :
    (drawAndRespond c ign points s).diag = stickyDiag s.diag (drawResponse (paint c ign points ⟨s.pix, false⟩).oor) := rfl
@[simp] theorem drawAndRespond_now (c : Colour) (ign : Bool) (points : List Point) (s : State) :
    (drawAndRespond c ign points s).now = s.now := rfl
@[simp] theorem drawAndRespond_slot (c : Colour) (ign : Bool) (points : List Point) (s : State) :
    (drawAndRespond c ign points s).slot = s.slot := rfl
@[simp] theorem drawAndRespond_controls (c : Colour) (ign : Bool) (points : List Point) (s : State) :
    (drawAndRespond c ign points s).controls = s.controls := rfl
@[simp] theorem drawAndRespond_status (c : Colour) (ign : Bool) (points : List Point) (s : State) :
    (drawAndRespond c ign points s).status = s.status := rfl
@[simp] theorem drawAndRespond_statusLen (c : Colour) (ign : Bool) (points : List Point) (s : State) :
    (drawAndRespond c ign points s).statusLen = s.statusLen := rfl
@[simp] theorem drawAndRespond_stage (c : Colour) (ign : Bool) (points : List Point) (s : State) :
    (drawAndRespond c ign points s).stage = s.stage := rfl
@[simp] theorem drawAndRespond_notifyCount (c : Colour) (ign : Bool) (points : List Point) (s : State) :
    (drawAndRespond c ign points s).notifyCount = s.notifyCount := rfl
@[simp] theorem drawAndRespond_resp (c : Colour) (ign : Bool) (points : List Point) (s : State) :
    (drawAndRespond c ign points s).resp = drawResponse (paint c ign points ⟨s.pix, false⟩).oor := rfl
@[simp] theorem drawAndRespond_notifyOut (c : Colour) (ign : Bool) (points : List Point) (s : State) :
    (drawAndRespond c ign points s).notifyOut = s.notifyOut := rfl
@[simp] theorem drawAndRespond_inFlight (c : Colour) (ign : Bool) (points : List Point) (s : State) :
    (drawAndRespond c ign points s).inFlight = none := rfl
@[simp] theorem drawAndRespond_beats (c : Colour) (ign : Bool) (points : List Point) (s : State) :
    (drawAndRespond c ign points s).beats = s.beats := rfl
@[simp] theorem drawAndRespond_resetAsserted (c : Colour) (ign : Bool) (points : List Point) (s : State) :
    (drawAndRespond c ign points s).resetAsserted = s.resetAsserted := rfl
@[simp] theorem drawAndRespond_heldStrobes (c : Colour) (ign : Bool) (points : List Point) (s : State) :
    (drawAndRespond c ign points s).heldStrobes = s.heldStrobes := rfl
@[simp] theorem drawAndRespond_agenda (c : Colour) (ign : Bool) (points : List Point) (s : State) :
    (drawAndRespond c ign points s).agenda = s.agenda := rfl
@[simp] theorem drawAndRespond_exportData (c : Colour) (ign : Bool) (points : List Point) (s : State) :
    (drawAndRespond c ign points s).exportData = s.exportData := rfl
@[simp] theorem drawAndRespond_freeCount (c : Colour) (ign : Bool) (points : List Point) (s : State) :
    (drawAndRespond c ign points s).freeCount = s.freeCount := rfl
@[simp] theorem drawAndRespond_params (c : Colour) (ign : Bool) (points : List Point) (s : State) :
    (drawAndRespond c ign points s).params = s.params := rfl

@[simp] theorem acceptPacket_pix (p : Packet) (s : State) : (acceptPacket p s).pix = s.pix := rfl
@[simp] theorem acceptPacket_tps (p : Packet) (s : State) : (acceptPacket p s).tps = s.tps := rfl
@[simp] theorem acceptPacket_diag (p : Packet) (s : State) : (acceptPacket p s).diag = s.diag := rfl
@[simp] theorem acceptPacket_now (p : Packet) (s : State) : (acceptPacket p s).now = s.now := rfl
@[simp] theorem acceptPacket_slot (p : Packet) (s : State) : (acceptPacket p s).slot = s.slot := rfl
@[simp] theorem acceptPacket_controls (p : Packet) (s : State) : (acceptPacket p s).controls = s.controls := rfl
@[simp] theorem acceptPacket_status (p : Packet) (s : State) : (acceptPacket p s).status = s.status := rfl
@[simp] theorem acceptPacket_statusLen (p : Packet) (s : State) : (acceptPacket p s).statusLen = s.statusLen := rfl
@[simp] theorem acceptPacket_stage (p : Packet) (s : State) : (acceptPacket p s).stage = s.stage := rfl
@[simp] theorem acceptPacket_notifyCount (p : Packet) (s : State) :
    (acceptPacket p s).notifyCount = s.notifyCount := rfl
@[simp] theorem acceptPacket_resp (p : Packet) (s : State) : (acceptPacket p s).resp = s.resp := rfl
@[simp] theorem acceptPacket_notifyOut (p : Packet) (s : State) : (acceptPacket p s).notifyOut = s.notifyOut := rfl
@[simp] theorem acceptPacket_inFlight (p : Packet) (s : State) : (acceptPacket p s).inFlight = some p := rfl
@[simp] theorem acceptPacket_beats (p : Packet) (s : State) : (acceptPacket p s).beats = s.beats := rfl
@[simp] theorem acceptPacket_resetAsserted (p : Packet) (s : State) :
    (acceptPacket p s).resetAsserted = s.resetAsserted := rfl
@[simp] theorem acceptPacket_heldStrobes (p : Packet) (s : State) :
    (acceptPacket p s).heldStrobes = s.heldStrobes := rfl
@[simp] theorem acceptPacket_agenda (p : Packet) (s : State) : (acceptPacket p s).agenda = s.agenda := rfl
@[simp] theorem acceptPacket_exportData (p : Packet) (s : State) : (acceptPacket p s).exportData = s.exportData := rfl
@[simp] theorem acceptPacket_freeCount (p : Packet) (s : State) : (acceptPacket p s).freeCount = s.freeCount := rfl
@[simp] theorem acceptPacket_params (p : Packet) (s : State) : (acceptPacket p s).params = s.params := rfl

@[simp] theorem deliverHeldStrobes_pix (s : State) : (deliverHeldStrobes s).pix = s.pix := rfl
@[simp] theorem deliverHeldStrobes_tps (s : State) : (deliverHeldStrobes s).tps = s.tps := rfl
@[simp] theorem deliverHeldStrobes_diag (s : State) : (deliverHeldStrobes s).diag = s.diag := rfl
@[simp] theorem deliverHeldStrobes_now (s : State) :
    (deliverHeldStrobes s).now = s.now + BitVec.ofNat 64 s.heldStrobes := rfl
@[simp] theorem deliverHeldStrobes_slot (s : State) : (deliverHeldStrobes s).slot = s.slot := rfl
@[simp] theorem deliverHeldStrobes_controls (s : State) : (deliverHeldStrobes s).controls = s.controls := rfl
@[simp] theorem deliverHeldStrobes_status (s : State) : (deliverHeldStrobes s).status = s.status := rfl
@[simp] theorem deliverHeldStrobes_statusLen (s : State) : (deliverHeldStrobes s).statusLen = s.statusLen := rfl
@[simp] theorem deliverHeldStrobes_stage (s : State) : (deliverHeldStrobes s).stage = s.stage := rfl
@[simp] theorem deliverHeldStrobes_notifyCount (s : State) : (deliverHeldStrobes s).notifyCount = s.notifyCount := rfl
@[simp] theorem deliverHeldStrobes_resp (s : State) : (deliverHeldStrobes s).resp = s.resp := rfl
@[simp] theorem deliverHeldStrobes_notifyOut (s : State) : (deliverHeldStrobes s).notifyOut = s.notifyOut := rfl
@[simp] theorem deliverHeldStrobes_inFlight (s : State) : (deliverHeldStrobes s).inFlight = s.inFlight := rfl
@[simp] theorem deliverHeldStrobes_beats (s : State) : (deliverHeldStrobes s).beats = s.beats := rfl
@[simp] theorem deliverHeldStrobes_resetAsserted (s : State) :
    (deliverHeldStrobes s).resetAsserted = s.resetAsserted := rfl
@[simp] theorem deliverHeldStrobes_heldStrobes (s : State) : (deliverHeldStrobes s).heldStrobes = 0 := rfl
@[simp] theorem deliverHeldStrobes_agenda (s : State) : (deliverHeldStrobes s).agenda = s.agenda := rfl
@[simp] theorem deliverHeldStrobes_exportData (s : State) : (deliverHeldStrobes s).exportData = s.exportData := rfl
@[simp] theorem deliverHeldStrobes_freeCount (s : State) : (deliverHeldStrobes s).freeCount = s.freeCount := rfl
@[simp] theorem deliverHeldStrobes_params (s : State) : (deliverHeldStrobes s).params = s.params := rfl

@[simp] theorem assertReset_pix (s : State) : (assertReset s).pix = solid 0#24 := rfl
@[simp] theorem assertReset_tps (s : State) : (assertReset s).tps = 0#16 := rfl
@[simp] theorem assertReset_diag (s : State) : (assertReset s).diag = 0#3 := rfl
@[simp] theorem assertReset_now (s : State) : (assertReset s).now = 0#64 := rfl
@[simp] theorem assertReset_slot (s : State) : (assertReset s).slot = Slot.idle := rfl
@[simp] theorem assertReset_controls (s : State) : (assertReset s).controls = 0#8 := rfl
@[simp] theorem assertReset_status (s : State) : (assertReset s).status = [] := rfl
@[simp] theorem assertReset_statusLen (s : State) : (assertReset s).statusLen = 0#16 := rfl
@[simp] theorem assertReset_stage (s : State) : (assertReset s).stage = [] := rfl
@[simp] theorem assertReset_notifyCount (s : State) : (assertReset s).notifyCount = 0#32 := rfl
@[simp] theorem assertReset_resp (s : State) : (assertReset s).resp = okResponse 0#32 := rfl
@[simp] theorem assertReset_notifyOut (s : State) : (assertReset s).notifyOut = false := rfl
@[simp] theorem assertReset_inFlight (s : State) : (assertReset s).inFlight = none := rfl
@[simp] theorem assertReset_beats (s : State) : (assertReset s).beats = [] := rfl
@[simp] theorem assertReset_resetAsserted (s : State) : (assertReset s).resetAsserted = true := rfl
@[simp] theorem assertReset_heldStrobes (s : State) : (assertReset s).heldStrobes = 0 := rfl
@[simp] theorem assertReset_agenda (s : State) : (assertReset s).agenda = s.agenda := rfl
@[simp] theorem assertReset_exportData (s : State) : (assertReset s).exportData = s.exportData := rfl
@[simp] theorem assertReset_freeCount (s : State) : (assertReset s).freeCount = s.freeCount := rfl
@[simp] theorem assertReset_params (s : State) : (assertReset s).params = s.params := rfl

@[simp] theorem drawRect_pix (filled ign : Bool) (x y : Int) (w h : Nat) (c : Colour) (s : State) :
    (drawRect filled ign x y w h c s).pix = (paint c true (rectCells x y w h filled) ⟨s.pix, false⟩).pix := rfl
@[simp] theorem drawRect_tps (filled ign : Bool) (x y : Int) (w h : Nat) (c : Colour) (s : State) :
    (drawRect filled ign x y w h c s).tps = s.tps := rfl
@[simp] theorem drawRect_diag (filled ign : Bool) (x y : Int) (w h : Nat) (c : Colour) (s : State) :
    (drawRect filled ign x y w h c s).diag = stickyDiag s.diag (drawResponse (boxLeavesGrid x y w h && !ign)) := rfl
@[simp] theorem drawRect_now (filled ign : Bool) (x y : Int) (w h : Nat) (c : Colour) (s : State) :
    (drawRect filled ign x y w h c s).now = s.now := rfl
@[simp] theorem drawRect_slot (filled ign : Bool) (x y : Int) (w h : Nat) (c : Colour) (s : State) :
    (drawRect filled ign x y w h c s).slot = s.slot := rfl
@[simp] theorem drawRect_controls (filled ign : Bool) (x y : Int) (w h : Nat) (c : Colour) (s : State) :
    (drawRect filled ign x y w h c s).controls = s.controls := rfl
@[simp] theorem drawRect_status (filled ign : Bool) (x y : Int) (w h : Nat) (c : Colour) (s : State) :
    (drawRect filled ign x y w h c s).status = s.status := rfl
@[simp] theorem drawRect_statusLen (filled ign : Bool) (x y : Int) (w h : Nat) (c : Colour) (s : State) :
    (drawRect filled ign x y w h c s).statusLen = s.statusLen := rfl
@[simp] theorem drawRect_stage (filled ign : Bool) (x y : Int) (w h : Nat) (c : Colour) (s : State) :
    (drawRect filled ign x y w h c s).stage = s.stage := rfl
@[simp] theorem drawRect_notifyCount (filled ign : Bool) (x y : Int) (w h : Nat) (c : Colour) (s : State) :
    (drawRect filled ign x y w h c s).notifyCount = s.notifyCount := rfl
@[simp] theorem drawRect_resp (filled ign : Bool) (x y : Int) (w h : Nat) (c : Colour) (s : State) :
    (drawRect filled ign x y w h c s).resp = drawResponse (boxLeavesGrid x y w h && !ign) := rfl
@[simp] theorem drawRect_notifyOut (filled ign : Bool) (x y : Int) (w h : Nat) (c : Colour) (s : State) :
    (drawRect filled ign x y w h c s).notifyOut = s.notifyOut := rfl
@[simp] theorem drawRect_inFlight (filled ign : Bool) (x y : Int) (w h : Nat) (c : Colour) (s : State) :
    (drawRect filled ign x y w h c s).inFlight = none := rfl
@[simp] theorem drawRect_beats (filled ign : Bool) (x y : Int) (w h : Nat) (c : Colour) (s : State) :
    (drawRect filled ign x y w h c s).beats = s.beats := rfl
@[simp] theorem drawRect_resetAsserted (filled ign : Bool) (x y : Int) (w h : Nat) (c : Colour) (s : State) :
    (drawRect filled ign x y w h c s).resetAsserted = s.resetAsserted := rfl
@[simp] theorem drawRect_heldStrobes (filled ign : Bool) (x y : Int) (w h : Nat) (c : Colour) (s : State) :
    (drawRect filled ign x y w h c s).heldStrobes = s.heldStrobes := rfl
@[simp] theorem drawRect_agenda (filled ign : Bool) (x y : Int) (w h : Nat) (c : Colour) (s : State) :
    (drawRect filled ign x y w h c s).agenda = s.agenda := rfl
@[simp] theorem drawRect_exportData (filled ign : Bool) (x y : Int) (w h : Nat) (c : Colour) (s : State) :
    (drawRect filled ign x y w h c s).exportData = s.exportData := rfl
@[simp] theorem drawRect_freeCount (filled ign : Bool) (x y : Int) (w h : Nat) (c : Colour) (s : State) :
    (drawRect filled ign x y w h c s).freeCount = s.freeCount := rfl
@[simp] theorem drawRect_params (filled ign : Bool) (x y : Int) (w h : Nat) (c : Colour) (s : State) :
    (drawRect filled ign x y w h c s).params = s.params := rfl

theorem rejectUnsupported_eq (s : State) : rejectUnsupported s = respond unsupResponse s := rfl
theorem rejectIllegal_eq (s : State) : rejectIllegal s = respond illResponse s := rfl

@[simp] theorem flags_okResponse (d : BitVec 32) : (okResponse d).flags = 0#3 := by
  simp [okResponse, Response.flags]
@[simp] theorem flags_unsupResponse : unsupResponse.flags = 2#3 := by decide
@[simp] theorem flags_illResponse : illResponse.flags = 4#3 := by decide
@[simp] theorem flags_drawResponse (b : Bool) : (drawResponse b).flags = 0#1 ++ 0#1 ++ BitVec.ofBool b := rfl

@[simp] theorem stickyDiag_okResponse (g : BitVec 3) (d : BitVec 32) : stickyDiag g (okResponse d) = g := by
  simp [stickyDiag]
@[simp] theorem stickyDiag_unsupResponse (g : BitVec 3) : stickyDiag g unsupResponse = g ||| 2#3 := by
  simp [stickyDiag]
@[simp] theorem stickyDiag_illResponse (g : BitVec 3) : stickyDiag g illResponse = g ||| 4#3 := by
  simp [stickyDiag]
@[simp] theorem stickyDiag_drawResponse (g : BitVec 3) (b : Bool) :
    stickyDiag g (drawResponse b) = g ||| (0#1 ++ 0#1 ++ BitVec.ofBool b) := rfl

end Sys2Proof.Machine
end

