-- ==== Sys2Proof/Laws/Pixels.lean ====
section
/-! SUPPORT. The pixel addresser: what painting a list of points does to every cell and to OOR, said once. -/

namespace Sys2Proof.Machine

theorem pixelIndex_lt {x y : Int} (h : InGrid x y) : pixelIndex x y < 144 := by
  obtain ⟨_, _, _, _⟩ := h; simp only [pixelIndex]; omega

theorem pixelIndex_inj {x y x' y' : Int} (h : InGrid x y) (h' : InGrid x' y') :
    pixelIndex x y = pixelIndex x' y' ↔ x = x' ∧ y = y' := by
  obtain ⟨_, _, _, _⟩ := h; obtain ⟨_, _, _, _⟩ := h'; simp only [pixelIndex]; omega

/-- A cell after a write to one index. -/
theorem cellAt_set (pix : Pix) (i j : Nat) (c : Colour) (hi : i < 144) :
    cellAt (pix.setIfInBounds i c) j = if i = j then c else cellAt pix j := by
  by_cases hij : i = j
  · subst hij; simp [cellAt, hi]
  · simp [cellAt, hij]

@[simp] theorem cellAt_solid (c : Colour) (i : Nat) (hi : i < 144) : cellAt (solid c) i = c := by
  simp [cellAt, solid, hi]

@[simp] theorem pixRead_solid (c : Colour) (x y : Int) (h : InGrid x y) : pixRead (solid c) x y = c := by
  rw [pixRead, if_pos h, cellAt_solid _ _ (pixelIndex_lt h)]

/-- One checked write, seen at an InGrid point (40_pixel.md R143). -/
theorem pixRead_pixWrite (c : Colour) (ign : Bool) (k : Canvas) (p : Point) {x y : Int} (h : InGrid x y) :
    pixRead (pixWrite c ign k p).pix x y = if p = (x, y) then c else pixRead k.pix x y := by
  obtain ⟨px, py⟩ := p
  simp only [pixWrite, pixRead, if_pos h]
  by_cases hp : InGrid px py
  · rw [if_pos hp, cellAt_set _ _ _ _ (pixelIndex_lt hp)]
    simp only [pixelIndex_inj hp h, Prod.mk.injEq]
  · have hne : ¬ ((px, py) = (x, y)) := fun he => hp (by cases he; exact h)
    rw [if_neg hp, if_neg hne]
    cases ign <;> rfl

theorem oor_pixWrite (c : Colour) (ign : Bool) (k : Canvas) (p : Point) :
    (pixWrite c ign k p).oor = true ↔ k.oor = true ∨ (ign = false ∧ ¬ InGrid p.1 p.2) := by
  simp only [pixWrite]
  by_cases hp : InGrid p.1 p.2
  · rw [if_pos hp]; exact ⟨Or.inl, fun h => h.elim id (fun h => absurd hp h.2)⟩
  · rw [if_neg hp]; cases ign <;> simp [hp]

@[simp] theorem paint_nil (c : Colour) (ign : Bool) (k : Canvas) : paint c ign [] k = k := rfl

theorem paint_cons (c : Colour) (ign : Bool) (p : Point) (ps : List Point) (k : Canvas) :
    paint c ign (p :: ps) k = paint c ign ps (pixWrite c ign k p) := rfl

/-- An InGrid cell after painting: the colour if its point is in the list, else the old cell. -/
theorem pixRead_paint (c : Colour) (ign : Bool) (ps : List Point) (k : Canvas) {x y : Int} (h : InGrid x y) :
    pixRead (paint c ign ps k).pix x y = if (x, y) ∈ ps then c else pixRead k.pix x y := by
  induction ps generalizing k with
  | nil => simp
  | cons p ps ih =>
    rw [paint_cons, ih, pixRead_pixWrite _ _ _ _ h]
    by_cases hps : (x, y) ∈ ps
    · simp [hps]
    · by_cases hp : p = (x, y)
      · simp [hp]
      · simp [hps, hp, Ne.symm hp]

/-- OOR after painting: raised before, or by some point of the list out of the grid with `ign` 0. -/
theorem oor_paint (c : Colour) (ign : Bool) (ps : List Point) (k : Canvas) :
    (paint c ign ps k).oor = true ↔ k.oor = true ∨ (ign = false ∧ ∃ p ∈ ps, ¬ InGrid p.1 p.2) := by
  induction ps generalizing k with
  | nil => simp
  | cons p ps ih =>
    rw [paint_cons, ih, oor_pixWrite]
    simp only [List.mem_cons, exists_eq_or_imp]
    rw [or_assoc, ← and_or_left]

/-- Everything a drawing command does, by the set of points it paints (41_line_rect.md R176: order and multiplicity do not
matter). -/
theorem painted_drawAndRespond (c : Colour) (ign : Bool) (ps : List Point) (s : State) (pts : Point → Prop)
    (hpts : ∀ p, p ∈ ps ↔ pts p) : Safety.Painted s (drawAndRespond c ign ps s) c ign pts where
  lit x y h hp := by simp [pixRead_paint _ _ _ _ h, (hpts (x, y)).mpr hp]
  unlit x y h hp := by simp [pixRead_paint _ _ _ _ h, mt (hpts (x, y)).mp hp]
  oor := by simp [drawResponse, oor_paint, hpts]
  rest := rfl

/-- Two pixel buffers that agree at every InGrid point are equal: every index is some point's (40_pixel.md R142). -/
theorem pix_ext {p q : Pix} (h : ∀ x y, InGrid x y → pixRead p x y = pixRead q x y) : p = q := by
  apply Vector.ext
  intro i hi
  have hg : InGrid ((i % 12 : Nat) : Int) (11 - ((i / 12 : Nat) : Int)) := by
    refine ⟨?_, ?_, ?_, ?_⟩ <;> omega
  have hx : pixelIndex ((i % 12 : Nat) : Int) (11 - ((i / 12 : Nat) : Int)) = i := by
    simp only [pixelIndex]; omega
  have := h _ _ hg
  rw [pixRead, pixRead, if_pos hg, if_pos hg, hx] at this
  simpa [cellAt, hi] using this

/-- The 144 points are the InGrid ones. -/
theorem mem_gridPoints (p : Point) : p ∈ gridPoints ↔ InGrid p.1 p.2 := by
  obtain ⟨a, b⟩ := p
  simp only [gridPoints, List.mem_flatMap, List.mem_range, List.mem_map, Prod.mk.injEq]
  constructor
  · rintro ⟨y, hy, x, hx, rfl, rfl⟩
    omega
  · intro h
    exact ⟨b.toNat, by omega, a.toNat, by omega, by omega, by omega⟩

/-- The cells RECT writes. -/
theorem mem_rectCells (x y : Int) (w h : Nat) (filled : Bool) (p : Point) :
    p ∈ rectCells x y w h filled ↔
      InGrid p.1 p.2 ∧ inBox x y w h p = true ∧ (filled = true ∨ onEdge x y w h p = true) := by
  simp [rectCells, mem_gridPoints]

end Sys2Proof.Machine
end

