-- ==== Sys2Proof/Laws/Step.lean ====
section
/-! SUPPORT. What a step is, by the head of the agenda. -/

namespace Sys2Proof.Machine

/-- A turn that is not held back is taken, and the NOTIFY pulse of the step before is over. -/
theorem step_of_turn {s : State} {t : Turn} {rest : List Turn} (h : s.agenda = t :: rest) (hh : hostHolds t s = false) :
    step s = takeTurn t { s with notifyOut := false, agenda := rest } := by
  simp [step, runAgenda, h, hh]

/-- A HOST that must hold its packet keeps its turn, and the ENGINE moves. -/
theorem step_of_held {s : State} {t : Turn} {rest : List Turn} (h : s.agenda = t :: rest) (hh : hostHolds t s = true) :
    step s = engineTurn { s with notifyOut := false } := by
  simp [step, runAgenda, h, hh]

/-- With no turn left the ENGINE finishes what it accepted. -/
theorem step_of_no_turn {s : State} (h : s.agenda = []) : step s = engineTurn { s with notifyOut := false } := by
  simp [step, runAgenda, h]

@[simp] theorem afterPacket_next (s : State) : afterPacket (.next s) = .next (deliverHeldStrobes s) := rfl

/-- What the ENGINE does with the packet in flight: the decoded command's effect, or the illegal packet's, and then the
strobes held back. -/
theorem engineTurn_cases {s : State} {p : Packet} (h : s.inFlight = some p) :
    (∃ i, decode p = .ok i ∧ engineTurn s = afterPacket (exec i s)) ∨
      (∃ e, decode p = .illegal e ∧ engineTurn s = .next (deliverHeldStrobes (rejectIllegal s))) := by
  cases hd : decode p with
  | ok i => exact .inl ⟨i, rfl, by simp [engineTurn, h, runPacket, hd]⟩
  | illegal e => exact .inr ⟨e, rfl, by simp [engineTurn, h, runPacket, hd]⟩

theorem engineTurn_idle {s : State} (h : s.inFlight = none) : engineTurn s = .next s := by
  simp [engineTurn, h]

/-- What a strobe can do: nothing (reset asserted), NOW + 1, or one more held strobe. -/
theorem strobe_cases (s : State) :
    (s.resetAsserted = true ∧ strobe s = s) ∨
    (s.resetAsserted = false ∧ s.busy = false ∧ strobe s = { s with now := s.now + 1#64 }) ∨
    (s.resetAsserted = false ∧ s.busy = true ∧
      (strobe s = { s with now := s.now + 1#64, freeCount := s.freeCount + 1 } ∨
        strobe s = { s with heldStrobes := s.heldStrobes + 1, freeCount := s.freeCount + 1 })) := by
  unfold strobe
  cases s.resetAsserted <;> cases s.busy <;> cases Config.strobeAfterPacket s.freeCount <;> simp

/-- What a beat can do: nothing (reset asserted), be stored, or complete a packet. -/
theorem takeBeat_cases (w : BitVec 32) (s : State) :
    (s.resetAsserted = true ∧ takeBeat w s = s) ∨
    (s.resetAsserted = false ∧ s.beats.length ≠ 3 ∧ takeBeat w s = { s with beats := s.beats ++ [w] }) ∨
    (∃ b0 b1 b2, s.resetAsserted = false ∧ s.beats = [b0, b1, b2] ∧
      takeBeat w s = { s with beats := [], inFlight := some (b0 ++ b1 ++ b2 ++ w) }) := by
  unfold takeBeat
  cases hr : s.resetAsserted with
  | true => simp
  | false =>
    rcases hb : s.beats with _ | ⟨b0, _ | ⟨b1, _ | ⟨b2, _ | ⟨b3, rest⟩⟩⟩⟩ <;> simp [acceptPacket]

/-- What an export read can do: record a value, and count a draw if it is a free one. -/
theorem exportRead_cases (a : BitVec 12) (s : State) :
    (exportUnspecified s a = false ∧ exportRead a s = { s with exportData := exportWord s a }) ∨
    (exportUnspecified s a = true ∧
      exportRead a s = { s with exportData := Config.freeExportWord s.freeCount, freeCount := s.freeCount + 1 }) := by
  unfold exportRead
  cases exportUnspecified s a <;> simp

end Sys2Proof.Machine
end

