-- ==== Sys2Proof/Tests/Slice0.lean ====
section
/-! SUPPORT. Small tests. Expected values come from the encodings of 30_encoding.md and the vectors of 95_test_vectors.md
(named in each comment); the witnesses show that the hypotheses of the statements can be met, at the boundaries. -/

namespace Sys2Proof.Tests

set_option Elab.async false

open Sys2Proof.Machine Sys2Proof.Safety

/-! ### WellFormed: each check refuses an ill-formed term -/

theorem test_wf_refuses_kind_1 : (Instr.runAnim 1 false 5 5 100 0 0).wf = false := by decide
theorem test_wf_refuses_wide_mask : (Instr.setControls 0x100).wf = false := by decide
theorem test_wf_accepts_widest_mask : (Instr.setControls 0xFF).wf = true := by decide

/-! ### Decoding: a word per constructor, written out from the encoding tables -/

theorem test_decode_nop : decode 0x00000000_00000000_00000000_00000000#128 = .ok .nop := by decide +kernel
theorem test_decode_set : decode 0x01010000_FFFF000C_00000000_AB00FF00#128 = .ok (.set true 0xFFFF 0xC 0xAB00FF00) := by
  decide +kernel
theorem test_decode_off : decode 0x02000000_0005FFFF_00000000_00000000#128 = .ok (.off false 5 0xFFFF) := by decide +kernel
theorem test_decode_fill : decode 0x03000000_00000000_00000000_00123456#128 = .ok (.fill 0x123456) := by decide +kernel
theorem test_decode_clear : decode 0x04000000_00000000_00000000_00000000#128 = .ok .clear := by decide +kernel
theorem test_decode_line : decode 0x05010000_00010002_00030004_00000005#128 = .ok (.line true 1 2 3 4 5) := by
  decide +kernel
theorem test_decode_rect : decode 0x06020000_00010002_00030004_00000005#128 = .ok (.rect true false 1 2 3 4 5) := by
  decide +kernel
theorem test_decode_circle : decode 0x07010000_00010002_00030004_00000005#128 = .ok (.circle false true 1 2 3 4 5) := by
  decide +kernel
theorem test_decode_digit : decode 0x08000000_00010002_00030000_00000005#128 = .ok (.digit false 1 2 3 5) := by
  decide +kernel
theorem test_decode_number : decode 0x09000000_00010002_00030004_00000005#128 = .ok (.number false 1 2 3 4 5) := by
  decide +kernel
theorem test_decode_get_pixel : decode 0x0A010000_00010002_00000000_00000000#128 = .ok (.getPixel true 1 2) := by
  decide +kernel
theorem test_decode_set_tps : decode 0x0B000000_00000000_00000000_FFFFFFFF#128 = .ok (.setTps 0xFFFFFFFF) := by
  decide +kernel
theorem test_decode_get_tps : decode 0x0C000000_00000000_00000000_00000000#128 = .ok .getTps := by decide +kernel
theorem test_decode_clear_diag : decode 0x0F000000_00000000_00000000_00000000#128 = .ok .clearDiag := by decide +kernel
theorem test_decode_run_anim : decode 0x1002FD05_000103E8_00020003_0000FFFF#128 =
    .ok (.runAnim 0 true 0xFD 5 0x103E8 0x20003 0xFFFF) := by decide +kernel
theorem test_decode_stop_anim : decode 0x11000000_00000000_00000000_00000000#128 = .ok .stopAnim := by decide +kernel
theorem test_decode_is_anim_running : decode 0x12000000_00000000_00000000_00000000#128 = .ok .isAnimRunning := by
  decide +kernel
theorem test_decode_tick : decode 0x13000000_00000000_00000000_00000000#128 = .ok .tick := by decide +kernel
theorem test_decode_set_controls : decode 0x18000000_00000000_00000000_00000081#128 = .ok (.setControls 0x81) := by
  decide +kernel
theorem test_decode_get_controls : decode 0x19000000_00000000_00000000_00000000#128 = .ok .getControls := by decide +kernel
theorem test_decode_status_stage : decode 0x1A0000F8_08000000_08070605_04030201#128 =
    .ok (.statusStage 248 8 0x0807060504030201) := by decide +kernel
theorem test_decode_status_commit : decode 0x1B000100_00000000_00000000_00000000#128 = .ok (.statusCommit 256) := by
  decide +kernel
theorem test_decode_get_status_len : decode 0x1C000000_00000000_00000000_00000000#128 = .ok .getStatusLen := by
  decide +kernel
theorem test_decode_ctrl_reset : decode 0x1D000000_00000000_00000000_00000000#128 = .ok .ctrlReset := by decide +kernel

/-- Vectors E2, E4, E5, E6, E11: each reason a packet is illegal. -/
theorem test_decode_illegal :
    decode 0x0D000000_00000000_00000000_00000000#128 = .illegal .unassignedOpcode ∧
    decode 0x01000010_00030004_00000000_00FF0000#128 = .illegal .reservedBits ∧
    decode 0x04010000_00000000_00000000_00000000#128 = .illegal .strayIgn ∧
    decode 0x05020000_00000000_00030003_00FFFFFF#128 = .illegal .strayFill ∧
    decode 0x10100505_00000064_00000000_00FFFFFF#128 = .illegal .kindNotSplash := by decide +kernel

/-- Vectors E7, E8, E9, E12, E14 and T9: reserved bits of the narrower formats. -/
theorem test_decode_reserved :
    decode 0x02000000_00000000_00000000_00000001#128 = .illegal .reservedBits ∧
    decode 0x08000000_00000000_00010001_00FFFFFF#128 = .illegal .reservedBits ∧
    decode 0x01040000_00000000_00000000_00FFFFFF#128 = .illegal .reservedBits ∧
    decode 0x18000000_00000000_00000000_00000100#128 = .illegal .reservedBits ∧
    decode 0x1A000000_01000001_00000000_00000041#128 = .illegal .reservedBits ∧
    decode 0x0F000000_00000000_00000000_00000001#128 = .illegal .reservedBits := by decide +kernel

theorem test_table_word : decodeTableWord 128 0x13000000_00000000_00000000_00000000 = some .tick := by decide +kernel

/-! ### One step each, from 95_test_vectors.md -/

/-- The state after the packet `w` is executed as the next step; `s` itself if the step does not answer a state. -/
def afterPacketWord (w : Nat) (s : State) : State :=
  match step (s.withFetchWord 128 w) with
  | .next t => t
  | .fault _ => s
  | .refused _ => s

/-- The reset state with every cell `c`. -/
def filled (c : Colour) : State := { State.reset with pix := solid c }

/-- A Splash at (5, 5), 100 ms with 50 ms hold, started at 0, with NOW as given (vector A1). -/
def running (now : BitVec 64) : State :=
  { State.reset with
    now := now
    slot := { active := true, kind := 0, sx := 5, sy := 5, scolor := 0x00FFFF, sfill := false, maxr := 8, duration := 100,
              keep := 50, start := 0 } }

/-- The InGrid points that are not off, in order of y then x. -/
def lit (s : State) : List Point := gridPoints.filter (fun p => pixRead s.pix p.1 p.2 != 0#24)

/-- RESP as a number: DATA, then ILL, UNSUP, OOR. -/
def answer (s : State) : Nat × Nat := (s.resp.data.toNat, s.resp.flags.toNat)

/-- P1: PIX[87]. -/
theorem test_set_P1 : cellAt (afterPacketWord 0x01000000_00030004_00000000_00FF0000 State.reset).pix 87 = 0xFF0000 := by
  decide +kernel
/-- P4. -/
theorem test_set_P4 : let t := afterPacketWord 0x01000000_000C0000_00000000_00FFFFFF State.reset
    answer t = (0, 1) ∧ t.diag = 1 ∧ lit t = [] := by decide +kernel
/-- P7. -/
theorem test_off_P7 : (lit (afterPacketWord 0x02000000_00000000_00000000_00000000 (filled 0xFFFFFF))).length = 143 := by
  decide +kernel
/-- P9, on a buffer of one colour. -/
theorem test_get_pixel : answer (afterPacketWord 0x0A000000_00030004_00000000_00000000 (filled 0xFF0000)) = (0xFF0000, 0) := by
  decide +kernel
/-- P10. -/
theorem test_get_pixel_P10 : answer (afterPacketWord 0x0A000000_000C0000_00000000_00000000 (filled 7)) = (0, 1) := by
  decide +kernel
/-- P12, P13. -/
theorem test_fill_P12 : afterPacketWord 0x03000000_00000000_00000000_AB123456 State.reset = filled 0x123456 := by
  decide +kernel
theorem test_clear_P13 : afterPacketWord 0x04000000_00000000_00000000_00000000 (filled 0x123456) = State.reset := by
  decide +kernel
/-- L1. -/
theorem test_line_L1 : lit (afterPacketWord 0x05000000_00000000_000B0005_000000FF State.reset) =
    [(0, 0), (1, 0), (2, 1), (3, 1), (4, 2), (5, 2), (6, 3), (7, 3), (8, 4), (9, 4), (10, 5), (11, 5)] := by decide +kernel
/-- L6 (the order of the end points matters: L2, L3). -/
theorem test_line_L6 : lit (afterPacketWord 0x05000000_000B0000_00000003_00FFFFFF State.reset) =
    [(10, 0), (11, 0), (6, 1), (7, 1), (8, 1), (9, 1), (2, 2), (3, 2), (4, 2), (5, 2), (0, 3), (1, 3)] := by decide +kernel
/-- Q7. -/
theorem test_rect_Q7 : let t := afterPacketWord 0x06000000_000A000A_00040004_00FFFFFF State.reset
    answer t = (0, 1) ∧ lit t = [(10, 10), (11, 10), (10, 11)] := by decide +kernel
/-- Q2, by the write sequence of R174. -/
theorem test_rect_sequence_Q2 : lit (drawAndRespond 0xFFFFFF false (rectPixels 0 0 3 3 true) State.reset) =
    lit (afterPacketWord 0x06020000_00000000_00030003_00FFFFFF State.reset) := by decide +kernel
/-- K3. -/
theorem test_circle_K3 : lit (afterPacketWord 0x07000000_00050005_0003005A_00FFFFFF State.reset) =
    [(3, 2), (7, 4), (8, 5), (3, 7)] := by decide +kernel
/-- K11: CIRCLE_ANGLE_UNIT = DEGREES lights 22 cells. -/
theorem test_circle_K11 : (lit (afterPacketWord 0x07000000_00050005_00030002_00FFFFFF
    { State.reset with params := { Config.decided with angleUnit := .degrees } })).length = 22 := by decide +kernel
/-- G12. -/
theorem test_digit_G12 : let t := afterPacketWord 0x08000000_000A0008_00080000_00FFFFFF State.reset
    answer t = (0, 1) ∧ lit t = [(10, 8), (11, 8), (10, 9), (10, 10), (11, 10), (10, 11)] := by decide +kernel
/-- G11. -/
theorem test_digit_G11 : answer (afterPacketWord 0x08000000_00000000_000A0000_00FFFFFF State.reset) = (0, 2) := by
  decide +kernel
/-- G15. -/
theorem test_number_G15 : lit (afterPacketWord 0x09000000_00000000_002A0001_00FF8000 State.reset) =
    [(0, 0), (2, 0), (4, 0), (5, 0), (6, 0), (0, 1), (2, 1), (6, 1), (0, 2), (1, 2), (2, 2), (4, 2), (5, 2), (6, 2), (2, 3),
     (4, 3), (2, 4), (4, 4), (5, 4), (6, 4)] := by decide +kernel
/-- G16. -/
theorem test_number_G16 : answer (afterPacketWord 0x09000000_000A0000_00050001_00FFFFFF State.reset) = (0, 2) := by
  decide +kernel
/-- T4, T3. -/
theorem test_set_tps_T4 : (afterPacketWord 0x0B000000_00000000_00000000_0000EA60 State.reset).tps = 51200 := by
  decide +kernel
theorem test_set_tps_T3 : (afterPacketWord 0x0B000000_00000000_00000000_FFFFFFFF State.reset).tps = 0 := by decide +kernel
/-- T2. -/
theorem test_get_tps_T2 : answer (afterPacketWord 0x0C000000_00000000_00000000_00000000 { State.reset with tps := 5120 }) =
    (0x1400, 0) := by decide +kernel
/-- T8, T9. -/
theorem test_clear_diag_T8 : let t := afterPacketWord 0x0F000000_00000000_00000000_00000000 { State.reset with diag := 3 }
    answer t = (3, 0) ∧ t.diag = 0 := by decide +kernel
theorem test_clear_diag_T9 : let t := afterPacketWord 0x0F000000_00000000_00000000_00000001 { State.reset with diag := 1 }
    answer t = (0, 4) ∧ t.diag = 5 := by decide +kernel
/-- T7. -/
theorem test_nop_T7 : afterPacketWord 0 State.reset = State.reset := by decide +kernel
/-- A13. -/
theorem test_run_anim_A13 : exportWord (afterPacketWord 0x1002FD05_000003E8_00000000_0000FFFF State.reset) 0x098 =
    0x1005FD10 := by decide +kernel
/-- A12. -/
theorem test_run_anim_A12 : let t := afterPacketWord 0x10000505_00000000_00000000_00FFFFFF State.reset
    answer t = (0, 2) ∧ t.slot = Slot.idle := by decide +kernel
/-- A15. -/
theorem test_stop_anim : (afterPacketWord 0x11000000_00000000_00000000_00000000 (running 40)).slot = Slot.idle := by
  decide +kernel
/-- A18. -/
theorem test_is_anim_running_A18 : answer (afterPacketWord 0x12000000_00000000_00000000_00000000 (running 0)) = (1, 0) := by
  decide +kernel
/-- A3: 27 cells. -/
theorem test_tick_A3 : let t := afterPacketWord 0x13000000_00000000_00000000_00000000 (running 50)
    answer t = (1, 0) ∧ (lit t).length = 27 := by decide +kernel
/-- A7. -/
theorem test_tick_A7 : let t := afterPacketWord 0x13000000_00000000_00000000_00000000 (running 151)
    answer t = (7, 0) ∧ t.slot = Slot.idle ∧ lit t = [] := by decide +kernel
/-- S2. -/
theorem test_set_controls_S2 : let t := (afterPacketWord 0x18000000_00000000_00000000_00000081
      { State.reset with controls := 0x81, notifyCount := 1 })
    t.controls = 0x81 ∧ t.notifyCount = 2 ∧ t.notifyOut = true := by decide +kernel
/-- S3. -/
theorem test_get_controls_S3 : answer (afterPacketWord 0x19000000_00000000_00000000_00000000
    { State.reset with controls := 0x81 }) = (0x81, 0) := by decide +kernel
/-- S4, S10. -/
theorem test_status_stage_S4 : (afterPacketWord 0x1A000000_02000000_00000000_00006948 State.reset).stage =
    [(0, 0x48), (1, 0x69)] := by decide +kernel
theorem test_status_stage_S10 : let t := afterPacketWord 0x1A0000FA_08000000_08070605_04030201 State.reset
    answer t = (0, 2) ∧ t.stage = [] := by decide +kernel
/-- S5, S8. -/
theorem test_status_commit_S5 : let t := (afterPacketWord 0x1B000002_00000000_00000000_00000000
      { State.reset with stage := [(0, 0x48), (1, 0x69), (2, 0x21)] })
    exportWord t 0x100 = 0x00006948 ∧ t.statusLen = 2 ∧ t.notifyCount = 1 := by decide +kernel
theorem test_status_commit_S8 : (afterPacketWord 0x1B000000_00000000_00000000_00000000
    { State.reset with status := [(0, 0x48)], statusLen := 1 }).status = [] := by decide +kernel
/-- S6. -/
theorem test_get_status_len_S6 : answer (afterPacketWord 0x1C000000_00000000_00000000_00000000
    { State.reset with statusLen := 2 }) = (2, 0) := by decide +kernel
/-- S14. -/
theorem test_ctrl_reset_S14 : let t := (afterPacketWord 0x1D000000_00000000_00000000_00000000
      { running 0 with controls := 0x81, status := [(0, 0x41)], statusLen := 1, stage := [(0, 0x41)], notifyCount := 2 })
    t.controls = 0 ∧ t.statusLen = 0 ∧ t.status = [] ∧ t.notifyCount = 3 ∧ t.slot.active = true ∧ t.stage = [(0, 0x41)] := by
  decide +kernel
/-- X4. -/
theorem test_export_now_X4 : exportWord { State.reset with now := 0x100000007 } 0x096 = 7 ∧
    exportWord { State.reset with now := 0x100000007 } 0x097 = 1 := by decide +kernel
/-- R125 and program 3: `SET_STATUS` of ten bytes. -/
theorem test_assemble_set_status : assembleLine "SET_STATUS \"Score: 42!\"".toList = some
    [.statusStage 0 8 0x34203A65726F6353, .statusStage 8 2 0x2132, .statusCommit 10] := by decide +kernel
/-- R121. -/
theorem test_assemble_run_anim : assembleLine "RUN_ANIM splash, -3, 5, #00FFFF, 1000, filled".toList = some
    [.runAnim 0 true 0xFD 5 1000 0 0xFFFF] := by decide +kernel

/-! ### Witnesses: the hypotheses of the statements can be met -/

/-- The reset state with packet `p` in flight and the turns `a` next. -/
def busyWith (p : Packet) (a : List Turn) : State := { State.reset with inFlight := some p, agenda := a }

/-- A packet is in flight and the ENGINE moves: by its turn, by an empty agenda, by a held packet and by a held beat. -/
theorem witness_StepRunsTheAcceptedPacket :
    (EnginesTurn (State.reset.withFetchWord 128 0) [] ∧ (State.reset.withFetchWord 128 0).inFlight = some 0#128) ∧
    EnginesTurn (busyWith 0#128 []) [] ∧
    EnginesTurn (busyWith 0#128 [.present 1#128]) [.present 1#128] ∧
    EnginesTurn (busyWith 0#128 [.beat 7#32]) [.beat 7#32] ∧ (busyWith 0#128 []).inFlight = some 0#128 ∧
    decode 0#128 = .ok .nop :=
  ⟨⟨.inl rfl, rfl⟩, .inr (.inl ⟨rfl, rfl⟩), .inr (.inr ⟨⟨rfl, [], .inl ⟨_, rfl⟩⟩, rfl⟩),
    .inr (.inr ⟨⟨rfl, [], .inr ⟨_, rfl⟩⟩, rfl⟩), rfl, test_decode_nop⟩

theorem witness_IllegalPacketOnlyDiagnoses :
    EnginesTurn (busyWith 0x0D000000_00000000_00000000_00000000#128 []) [] ∧
    EnginesTurn (busyWith 0x0D000000_00000000_00000000_00000000#128 [.present 1#128]) [.present 1#128] ∧
      decode 0x0D000000_00000000_00000000_00000000#128 = .illegal .unassignedOpcode :=
  ⟨.inr (.inl ⟨rfl, rfl⟩), .inr (.inr ⟨⟨rfl, [], .inl ⟨_, rfl⟩⟩, rfl⟩), test_decode_illegal.1⟩

theorem witness_IdleEngineHoldsTheState :
    (EnginesTurn State.reset [] ∧ State.reset.inFlight = none) ∧
      EnginesTurn { State.reset with agenda := [.engine, .strobe] } [.strobe] := ⟨⟨.inr (.inl ⟨rfl, rfl⟩), rfl⟩, .inl rfl⟩

theorem witness_DecodeOfEncodeGivesTheCommand :
    (Instr.runAnim 0 true 5 5 100 50 0x00FFFF).wf = true ∧ (Instr.setControls 0xFF).wf = true := by decide

theorem witness_EncodeOfDecodeGivesThePacket :
    decode 0x13000000_00000000_00000000_00000000#128 = .ok .tick := test_decode_tick

theorem witness_LegalPacketMatchesExactlyItsRow :
    decode 0x13000000_00000000_00000000_00000000#128 = .ok .tick ∧
      decode 0x0D000000_00000000_00000000_00000000#128 = .illegal .unassignedOpcode :=
  ⟨test_decode_tick, test_decode_illegal.1⟩

/-- A state other than reset that meets the invariant, and its step. -/
theorem witness_EveryStepKeepsTheInvariant :
    Inv { State.reset with tps := 51200, agenda := [.strobe] } ∧
      ∃ t, step { State.reset with tps := 51200, agenda := [.strobe] } = .next t := by
  refine ⟨?_, _, rfl⟩
  refine ⟨by decide, ⟨?_, ?_, ?_, ?_, ?_, ?_⟩, by decide, fun _ _ => rfl, by decide, by decide, by decide, ?_, ?_, by decide,
    fun _ => rfl, by decide⟩
  all_goals simp [State.reset, Slot.idle, AtMostOneFlag]

theorem witness_EveryPacketCompletes : State.reset.resetAsserted = false := rfl

theorem witness_ResetInputRestoresTheResetState :
    (running 7 |> fun s => ({ s with agenda := [.resetInput true] } : State)).agenda = .resetInput true :: [] ∧
      ({ State.reset with resetAsserted := true, agenda := [.resetInput false] } : State).agenda =
        .resetInput false :: [] := ⟨rfl, rfl⟩

/-- Reset asserted, not busy, and each of the four turns next. -/
theorem witness_AssertedResetIgnoresPacketsAndStrobes (t : Turn) :
    ({ assertReset State.reset with agenda := [t] } : State).resetAsserted = true ∧
      ({ assertReset State.reset with agenda := [t] } : State).busy = false ∧
      ({ assertReset State.reset with agenda := [t] } : State).agenda = t :: [] := ⟨rfl, rfl, rfl⟩

theorem witness_PortAcceptsOnePacketAtATime (q : Packet) (w : BitVec 32) :
    (({ State.reset with agenda := [.present q] } : State).busy = false ∧
      ({ State.reset with agenda := [.present q] } : State).resetAsserted = false) ∧
    (HeldTurn (busyWith 0#128 [.present q]) ∧ (busyWith 0#128 [.present q]).inFlight = some 0#128) ∧
    (HeldTurn (busyWith 0#128 [.beat w]) ∧ (busyWith 0#128 [.beat w]).inFlight = some 0#128) :=
  ⟨⟨rfl, rfl⟩, ⟨⟨rfl, [], .inl ⟨_, rfl⟩⟩, rfl⟩, ⟨rfl, [], .inr ⟨_, rfl⟩⟩, rfl⟩

theorem witness_FourBeatsMakeAPacket (p : Packet) :
    let s : State := { State.reset with agenda := [.beat (p.extractLsb' 96 32), .beat (p.extractLsb' 64 32),
      .beat (p.extractLsb' 32 32), .beat (p.extractLsb' 0 32)] }
    s.busy = false ∧ s.resetAsserted = false ∧ s.beats = [] := ⟨rfl, rfl, rfl⟩

/-- NOW at its last value, so that the strobe wraps. -/
theorem witness_StrobeAdvancesNow :
    let s : State := { State.reset with now := 0xFFFFFFFFFFFFFFFF, agenda := [.strobe] }
    s.agenda = .strobe :: [] ∧ s.busy = false ∧ s.resetAsserted = false := ⟨rfl, rfl, rfl⟩

theorem witness_BusyStrobeIsNotLost :
    let s : State := { State.reset with inFlight := some 0#128, agenda := [.strobe] }
    s.agenda = .strobe :: [] ∧ s.busy = true ∧ s.resetAsserted = false := ⟨rfl, rfl, rfl⟩

/-- The boundary addresses of the export port's ranges. -/
theorem witness_ExportPortMap :
    (0x08F#12).toNat ≤ 0x08F ∧ (0x09E ≤ (0x09E#12).toNat ∧ (0x0FF#12).toNat ≤ 0x0FF) ∧
      (0x13F#12).toNat = 0x100 + 63 ∧ 63 < State.reset.params.statusCap / 4 ∧
      0x100 + State.reset.params.statusCap / 4 ≤ (0x140#12).toNat := by decide

theorem witness_ExportReadChangesNothing (a : BitVec 12) :
    let s : State := { State.reset with agenda := [.read a] }
    s.agenda = .read a :: [] ∧ s.busy = false ∧ s.resetAsserted = false ∧
      ({ State.reset with agenda := [.write a 0] } : State).agenda = .write a 0 :: [] := ⟨rfl, rfl, rfl, rfl⟩

theorem witness_BusyExportRead :
    (∀ a, let s : State := { State.reset with inFlight := some 0#128, agenda := [.read a] }
      s.agenda = .read a :: [] ∧ s.busy = true ∧ s.resetAsserted = false) ∧ (0x091#12) ≠ 0x090 :=
  ⟨fun _ => ⟨rfl, rfl, rfl⟩, by decide⟩

/-- The corners of the grid, and the first index and the last. -/
theorem witness_IndexIsABijection : InGrid 0 11 ∧ InGrid 11 0 ∧ pixelIndex 0 11 = 0 ∧ pixelIndex 11 0 = 143 := by decide

/-- A point at the grid's edge, and one just outside. -/
theorem witness_GetPixelAnswersTheCell :
    InGrid (11#16).toInt (0#16).toInt ∧ ¬ InGrid (12#16).toInt (0#16).toInt ∧ ¬ InGrid (0#16).toInt (0xFFFF#16).toInt := by
  decide

/-- Two neighbours of a line, the second its last point. -/
theorem witness_LinePixelsReachTheirEnd :
    (linePixels 0 0 2 1)[1]? = some (1, 1) ∧ (linePixels 0 0 2 1)[1 + 1]? = some (2, 1) := by decide
theorem witness_LineDrawsItsPixels : ∃ x1 y1 x2 y2 : BitVec 16, x1 = x2 ∧ y1 = y2 := ⟨0xFFFF, 12, 0xFFFF, 12, rfl, rfl⟩
theorem witness_RomHoldsItsExactEntries : 1 ≤ 1 ∧ 1 < 360 ∧ 1 ≤ 359 ∧ 359 < 360 := by decide
theorem witness_RectDrawsItsBox : (1#16).toNat ≠ 0 ∧ (0xFFFF#16).toNat ≠ 0 ∧ (0#16).toNat = 0 := by decide
theorem witness_RectIsItsWriteSequence : (1#16).toNat ≠ 0 ∧ (0xFFFF#16).toNat ≠ 0 := by decide
theorem witness_CircleDrawsItsSamples : (1#16).toNat ≠ 0 ∧ (0#16).toNat = 0 := by decide
theorem witness_CircleCornerCases :
    ((0#16).toNat = 0 ∧ 1 ≤ (1#16).toNat ∧ (360#16).toNat ≤ 360) ∧ 181 ≤ (181#16).toNat ∧ 361 ≤ (361#16).toNat := by
  decide
theorem witness_DigitLightsItsSegments : (9#16).toNat ≤ 9 ∧ (10#16).toNat > 9 := by decide
/-- G17 (x + W = 12) and G16 (x + W = 13). -/
theorem witness_NumberDrawsItsDigits :
    ([5] = (if (5#16).toNat = 0 then [0] else Nat.digits 10 (5#16).toNat)) ∧
      (3 = 3 * [5].length + (1#16).toNat * ([5].length - 1)) ∧
      (9#16).toInt + (3 : Nat) ≤ 12 ∧ (10#16).toInt + (3 : Nat) > 12 := by
  refine ⟨?_, by decide, by decide, by decide⟩
  simp
theorem witness_DecimalDigitsAreTheDigits : 65535 < 2 ^ 16 ∧ 0 < 2 ^ 16 := by decide
/-- The first and the last address of each unassigned range is one (the boundaries of R115). -/
theorem witness_UnassignedOpcodesAreIllegal :
    [0x0D, 0x0E, 0x14, 0x17, 0x1E, 0xFF].all (fun c => opOfCode (BitVec.ofNat 8 c) == none) = true := by decide

/-- exec answers a next state, for a command other than CLEAR_DIAG and for CLEAR_DIAG. -/
theorem witness_DiagIsSticky :
    (∃ t, exec .nop State.reset = .next t) ∧ Instr.nop ≠ .clearDiag ∧ ∃ t, exec .clearDiag State.reset = .next t :=
  ⟨⟨_, rfl⟩, by decide, _, rfl⟩
theorem witness_EarlierFlagsSteerNothing :
    (∃ t, exec .nop State.reset = .next t) ∧ Instr.nop ≠ .clearDiag ∧ ∃ t, exec .clearDiag State.reset = .next t :=
  witness_DiagIsSticky
theorem witness_AtMostOneFlagPerResponse : ∃ t, exec .nop State.reset = .next t := ⟨_, rfl⟩
theorem witness_PacketsWriteOnlyTheirState : ∃ t, exec .nop State.reset = .next t := ⟨_, rfl⟩
theorem witness_UnsupportedInputChangesNothing :
    Unsupported State.reset (.digit false 0 0 10 0) ∧ ¬ Unsupported State.reset (.digit false 0 0 9 0) ∧
      Unsupported State.reset (.statusCommit 257) ∧ ¬ Unsupported State.reset (.statusCommit 256) := by
  simp [Unsupported, State.reset, Config.decided]
theorem witness_NotifyCountsEachReplacementOnce :
    (writesNotify (Instr.statusCommit 256).op = true ∧ ¬ Unsupported State.reset (.statusCommit 256)) ∧
      Unsupported State.reset (.statusCommit 257) ∧ ∃ t, exec (.statusCommit 256) State.reset = .next t := by
  refine ⟨⟨rfl, ?_⟩, ?_, _, rfl⟩ <;> simp [Unsupported, State.reset, Config.decided]
theorem witness_RunAnimLoadsTheSlot : (1#4 ≠ 0 ∧ 15#4 ≠ 0) ∧ (1#32).toNat ≠ 0 ∧ (0#32).toNat = 0 := by decide
/-- Idle, and Running at el = 100, 101, 150, 151: the boundaries of the three answers. -/
theorem witness_TickDrawsAndRetires :
    State.reset.slot.active = false ∧ (running 100).slot.active = true ∧ 1 ≤ (running 100).slot.duration.toNat ∧
      (100 = ((running 100).now.toNat + (2 ^ 64 - (running 100).slot.start.toNat)) % 2 ^ 64) ∧
      (101 = ((running 101).now.toNat + (2 ^ 64 - (running 101).slot.start.toNat)) % 2 ^ 64) ∧
      (150 = ((running 150).now.toNat + (2 ^ 64 - (running 150).slot.start.toNat)) % 2 ^ 64) ∧
      (151 = ((running 151).now.toNat + (2 ^ 64 - (running 151).slot.start.toNat)) % 2 ^ 64) := by decide
/-- A TICK at the last millisecond of the hold window keeps the slot, and a second one answers too. -/
theorem witness_TickAgainGivesTheSamePicture :
    ∃ t u, exec .tick (running 150) = .next t ∧ t.slot.active = true ∧ exec .tick t = .next u := by
  refine ⟨_, _, rfl, ?_, rfl⟩
  decide +kernel
theorem witness_TickInTheSameMillisecondDrawsTheCentre :
    (running 0).slot.active = true ∧ 1 ≤ (running 0).slot.duration.toNat ∧ (running 0).now = (running 0).slot.start := by
  decide
/-- MAXR = 8 around (5, 5), el = 213 of 100: a radius of 17.04, in a slot a run can hold. -/
theorem witness_FarRingWritesNothingButTheClear :
    (213 = ((running 213).now.toNat + (2 ^ 64 - (running 213).slot.start.toNat)) % 2 ^ 64) ∧
      (running 213).slot.active = true ∧ 1 ≤ (running 213).slot.duration.toNat ∧
      InGrid (running 213).slot.sx.toInt (running 213).slot.sy.toInt ∧
      17 * (running 213).slot.duration.toNat ≤ (running 213).slot.maxr.toNat * 213 := by decide
theorem witness_StatusStageWritesItsBytes :
    Memory.wf State.reset.stage = true ∧ ((8#8).toNat ≤ 8 ∧ (248#16).toNat + (8#8).toNat ≤ State.reset.params.statusCap) ∧
      (9#8).toNat > 8 ∧ (249#16).toNat + (8#8).toNat > State.reset.params.statusCap := by decide
theorem witness_StatusCommitReplacesWholesale :
    (256#16).toNat ≤ State.reset.params.statusCap ∧ (257#16).toNat > State.reset.params.statusCap := by decide
theorem witness_SetStatusPseudoInstruction :
    Memory.wf State.reset.stage = true ∧ (List.replicate 256 0x41#8).length ≤ State.reset.params.statusCap ∧
      State.reset.params.statusCap ≤ 15360 := by
  exact ⟨rfl, by decide +kernel, by decide +kernel⟩

end Sys2Proof.Tests
end

section
/-! PROOFS. The state family: what one command can do to the state (an inversion of `exec`), and from it the access table
(R53), the independence of earlier flags (R54) and the invariant, kept by every turn of every agent. -/

namespace Sys2Proof.Safety

open Sys2Proof.Machine

/-! ### Numbers at the edge of a register -/

/-- A number in the range of an unsigned register is stored exactly. -/
theorem toNat_ofInt_of_range {w : Nat} {v : Int} (h0 : 0 ≤ v) (h1 : v < 2 ^ w) : ((BitVec.ofInt w v).toNat : Int) = v := by
  rw [BitVec.toNat_ofInt, Int.toNat_of_nonneg (Int.emod_nonneg _ (by positivity))]
  exact Int.emod_eq_of_lt h0 (by exact_mod_cast h1)

/-- The clamp of SET_TPS (45_rate_diag.md R236) lands in the range of TPS (10_state.md R34). -/
theorem clampTps_toNat_le (v : Int) : (BitVec.ofInt 16 (clampTps v)).toNat ≤ 51200 := by
  have hrange : 0 ≤ clampTps v ∧ clampTps v ≤ 51200 := by unfold clampTps; omega
  have hexact := toNat_ofInt_of_range (w := 16) hrange.1 (by omega)
  omega

/-- The Splash radius of any 8-bit centre is in 8 to 141 (10_state.md R41, 46_animation.md R252). -/
theorem splashMaxRadius_range (sx sy : BitVec 8) :
    8 ≤ splashMaxRadius sx.toInt sy.toInt ∧ splashMaxRadius sx.toInt sy.toInt ≤ 141 := by
  have hx := BitVec.le_toInt sx
  have hx' := BitVec.toInt_lt (x := sx)
  have hy := BitVec.le_toInt sy
  have hy' := BitVec.toInt_lt (x := sy)
  unfold splashMaxRadius
  omega

/-! ### A decoded command is well formed -/

theorem wf_buildInstr {op : Op} {f : Fields} (hkind : f.kind = 0#4) (hclear : reservedClear op f = true) :
    (buildInstr op f).wf = true := by
  cases op with
  | runAnim => simpa [buildInstr, Instr.wf] using hkind
  | setControls => simp_all [buildInstr, Instr.wf, reservedClear, Op.format]
  | _ => rfl

/-- The decoder accepts a packet only after the checks of 30_encoding.md R113. -/
theorem decodeFields_ok {f : Fields} {i : Instr} (h : decodeFields f = .ok i) :
    ∃ op, reservedClear op f = true ∧ f.kind = 0#4 ∧ buildInstr op f = i := by
  unfold decodeFields at h
  split at h
  · cases h
  next op _ =>
    split_ifs at h with hclear _ _ hkind
    exact ⟨op, by simpa using hclear, by simpa using hkind, by simpa using h⟩

theorem wf_of_decode {p : Packet} {i : Instr} (h : decode p = .ok i) : i.wf = true := by
  obtain ⟨_, hclear, hkind, rfl⟩ := decodeFields_ok h
  exact wf_buildInstr hkind hclear

/-! ### What one command can do -/

/-- `Effect s i u`: command `i`, started in `s`, may leave `u` before its response is presented. One constructor per kind of
write, with the condition under which the command does it; every other register of `u` is that of `s`. -/
inductive Effect (s : State) : Instr → State → Prop
  | keeps (i : Instr) : Effect s i s
  | paints (i : Instr) (pix : Pix) (hw : writesPix i.op = true) : Effect s i { s with pix := pix }
  | setsTps (value : BitVec 32) :
      Effect s (.setTps value) { s with tps := BitVec.ofInt 16 (clampTps (rate value)) }
  | loadsSlot (kind : BitVec 4) (filled : Bool) (sx sy : BitVec 8) (dur keep color : BitVec 32) (hdur : millis dur ≠ 0) :
      Effect s (.runAnim kind filled sx sy dur keep color) { s with slot := {
        active := true, kind := kind, sx := sx, sy := sy, scolor := colour color, sfill := filled,
        maxr := BitVec.ofInt 8 (splashMaxRadius (centre sx) (centre sy)), duration := dur, keep := keep, start := s.now } }
  | stops : Effect s .stopAnim (release s)
  | retires (pix : Pix) : Effect s .tick (release { s with pix := pix })
  | setsControls (value : BitVec 32) :
      Effect s (.setControls value) (notify { s with controls := maskOf value })
  | stages (offset : BitVec 16) (count : BitVec 8) (bytes : BitVec 64)
      (hfits : size offset + byteCount count ≤ s.params.statusCap) :
      Effect s (.statusStage offset count bytes)
        { s with stage := Memory.writeRun s.stage (size offset) (stagedByte bytes) (byteCount count) }
  | commits (len : BitVec 16) (hfits : size len ≤ s.params.statusCap) :
      Effect s (.statusCommit len) (notify { s with status := Memory.takeBelow s.stage (size len), statusLen := len })
  | clearsStatus :
      Effect s .ctrlReset (notify { s with status := [], statusLen := 0#16, controls := 0#8 })

/-- The same state with the response and DIAG of another past. -/
def withFlags (r : Response) (d : BitVec 3) (s : State) : State := { s with resp := r, diag := d }

/-- `i` answers `a` and leaves `u` but for its response, whatever response and DIAG stood before it (10_state.md R54). -/
def Answers (i : Instr) (s : State) (a : Response) (u : State) : Prop :=
  ∀ r d, exec i (withFlags r d s) = .next (respond a (withFlags r d u))

/-- `i` has one of the effects of `Effect` and answers with at most one flag. -/
def Completes (i : Instr) (s : State) : Prop :=
  ∃ a u, AtMostOneFlag a ∧ Effect s i u ∧ Answers i s a u

theorem atMostOneFlag_okResponse (d : BitVec 32) : AtMostOneFlag (okResponse d) := by simp [AtMostOneFlag, okResponse]
theorem atMostOneFlag_drawResponse (b : Bool) : AtMostOneFlag (drawResponse b) := by simp [AtMostOneFlag, drawResponse]
theorem atMostOneFlag_unsupResponse : AtMostOneFlag unsupResponse := by simp [AtMostOneFlag, unsupResponse]
theorem atMostOneFlag_illResponse : AtMostOneFlag illResponse := by simp [AtMostOneFlag, illResponse]

/-- A command that answers `data` with no flag. -/
theorem Completes.ok {i : Instr} {s u : State} (data : BitVec 32) (he : Effect s i u) (h : Answers i s (okResponse data) u) :
    Completes i s :=
  ⟨_, u, atMostOneFlag_okResponse data, he, h⟩

/-- A command that leaves the buffer `pix` and answers OOR or not. -/
theorem Completes.drawn {i : Instr} {s : State} {pix : Pix} {oor : Bool} (hw : writesPix i.op = true)
    (h : Answers i s (drawResponse oor) { s with pix := pix }) : Completes i s :=
  ⟨_, _, atMostOneFlag_drawResponse oor, .paints i pix hw, h⟩

/-- A command that draws the list `pts` by PixWrite (40_pixel.md R143). -/
theorem Completes.painted {i : Instr} {s : State} (c : Colour) (ign : Bool) (pts : List Point) (hw : writesPix i.op = true)
    (h : ∀ r d, exec i (withFlags r d s) = .next (drawAndRespond c ign pts (withFlags r d s))) : Completes i s :=
  .drawn (pix := (paint c ign pts ⟨s.pix, false⟩).pix) (oor := (paint c ign pts ⟨s.pix, false⟩).oor) hw h

/-- Unsupported input (60_exceptions.md R302). -/
theorem Completes.rejected {i : Instr} {s : State} (h : Answers i s unsupResponse s) : Completes i s :=
  ⟨_, s, atMostOneFlag_unsupResponse, .keeps i, h⟩

/-- The pixel buffer a TICK leaves (46_animation.md R253, R259). -/
def tickFrame (s : State) : Pix := splashFrame s.params.angleUnit s.slot (elapsed s) s.pix

/-- A TICK that retires the animation (46_animation.md R259, R260). -/
theorem exec_tick_retires {s : State} (hact : s.slot.active = true) (hret : retires s.slot (elapsed s) = true) :
    exec .tick s = .next (respond (okResponse (tickData true (splashFinished s.slot (elapsed s))))
      (release { s with pix := tickFrame s })) := by
  simp only [exec, execTick, hact, hret, if_true]; rfl

/-- A TICK that draws a frame and keeps the animation (46_animation.md R259). -/
theorem exec_tick_draws {s : State} (hact : s.slot.active = true) (hret : ¬ retires s.slot (elapsed s) = true) :
    exec .tick s = .next (respond (okResponse (tickData false (splashFinished s.slot (elapsed s))))
      { s with pix := tickFrame s }) := by
  simp only [exec, execTick, hact, Bool.eq_false_iff.mpr hret, if_true, Bool.false_eq_true, if_false]; rfl

/-- What the ENGINE does with any command but CLEAR_DIAG, said once: its effect, its answer, and that neither reads the
response or DIAG of an earlier packet. -/
theorem completes_of_ne_clearDiag (i : Instr) (s : State) (hi : i ≠ .clearDiag) : Completes i s := by
  cases i with
  | nop => exact .ok _ (.keeps _) fun _ _ => rfl
  | set => exact .painted _ _ _ rfl fun _ _ => rfl
  | off => exact .painted _ _ _ rfl fun _ _ => rfl
  | fill => exact .ok _ (.paints _ _ rfl) fun _ _ => rfl
  | clear => exact .ok _ (.paints _ _ rfl) fun _ _ => rfl
  | line => exact .painted _ _ _ rfl fun _ _ => rfl
  | rect filled ign x y w h color =>
    by_cases hc : size w = 0 ∨ size h = 0
    · exact .rejected fun _ _ => if_pos hc
    · exact .drawn (pix := (paint (colour color) true
          (rectCells (coord x) (coord y) (size w) (size h) filled) ⟨s.pix, false⟩).pix)
        (oor := boxLeavesGrid (coord x) (coord y) (size w) (size h) && !ign) rfl fun _ _ => if_neg hc
  | circle filled ign x y r step color =>
    by_cases hc : size step = 0
    · exact .rejected fun _ _ => if_pos hc
    · exact .painted (colour color) true
        (circlePixels s.params.angleUnit (coord x) (coord y) (size r) 1 (size step)) rfl fun _ _ => if_neg hc
  | digit ign x y n color =>
    by_cases hc : size n > 9
    · exact .rejected fun _ _ => if_pos hc
    · exact .painted _ _ _ rfl fun _ _ => if_neg hc
  | number ign x y n gap color =>
    by_cases hc : coord x + layoutWidth (decimalDigits (size n)).length (size gap) > 12
    · exact .rejected fun _ _ => if_pos hc
    · exact .painted _ _ _ rfl fun _ _ => if_neg hc
  | getPixel ign x y =>
    exact ⟨{ data := (pixRead s.pix (coord x) (coord y)).setWidth 32, oor := raisesOor (coord x) (coord y) ign,
             unsup := false, ill := false }, s, by simp [AtMostOneFlag], .keeps _, fun _ _ => rfl⟩
  | setTps value => exact .ok _ (.setsTps value) fun _ _ => rfl
  | getTps => exact .ok (s.tps.setWidth 32) (.keeps _) fun _ _ => rfl
  | clearDiag => exact absurd rfl hi
  | runAnim kind filled sx sy dur keep color =>
    by_cases hc : millis dur = 0
    · exact .rejected fun _ _ => if_pos hc
    · exact .ok _ (.loadsSlot kind filled sx sy dur keep color hc) fun _ _ => if_neg hc
  | stopAnim => exact .ok _ .stops fun _ _ => rfl
  | isAnimRunning => exact .ok ((BitVec.ofBool s.slot.active).setWidth 32) (.keeps _) fun _ _ => rfl
  | tick =>
    by_cases hact : s.slot.active = true
    · by_cases hret : retires s.slot (elapsed s) = true
      · exact .ok (tickData true (splashFinished s.slot (elapsed s))) (.retires (tickFrame s)) fun r d =>
          exec_tick_retires (s := withFlags r d s) hact hret
      · exact .ok (tickData false (splashFinished s.slot (elapsed s))) (.paints _ (tickFrame s) rfl) fun r d =>
          exec_tick_draws (s := withFlags r d s) hact hret
    · exact .ok _ (.keeps _) fun _ _ => if_neg hact
  | setControls value => exact .ok _ (.setsControls value) fun _ _ => rfl
  | getControls => exact .ok (s.controls.setWidth 32) (.keeps _) fun _ _ => rfl
  | statusStage offset count bytes =>
    by_cases hc : byteCount count > 8 ∨ size offset + byteCount count > s.params.statusCap
    · exact .rejected fun _ _ => if_pos hc
    · exact .ok _ (.stages offset count bytes (by omega)) fun _ _ => if_neg hc
  | statusCommit len =>
    by_cases hc : size len > s.params.statusCap
    · exact .rejected fun _ _ => if_pos hc
    · exact .ok _ (.commits len (by omega)) fun _ _ => if_neg hc
  | getStatusLen => exact .ok (s.statusLen.setWidth 32) (.keeps _) fun _ _ => rfl
  | ctrlReset => exact .ok _ .clearsStatus fun _ _ => rfl

theorem exec_clearDiag (s : State) :
    exec .clearDiag s = .next (complete (okResponse (s.diag.setWidth 32)) { s with diag := 0#3 }) := rfl

/-- The inversion of `exec`: a command ends by presenting its answer after one of the effects of `Effect`, or it is
CLEAR_DIAG. -/
theorem exec_cases {i : Instr} {s t : State} (h : exec i s = .next t) :
    (∃ a u, AtMostOneFlag a ∧ Effect s i u ∧ t = respond a u) ∨
      (i = .clearDiag ∧ t = complete (okResponse (s.diag.setWidth 32)) { s with diag := 0#3 }) := by
  by_cases hi : i = .clearDiag
  · subst hi
    rw [exec_clearDiag] at h
    exact .inr ⟨rfl, (Host.Outcome.next.inj h).symm⟩
  · obtain ⟨a, u, ha, he, hans⟩ := completes_of_ne_clearDiag i s hi
    have hu : withFlags s.resp s.diag u = u := by cases he <;> rfl
    have ht := (hans s.resp s.diag).symm.trans h
    rw [hu] at ht
    exact .inl ⟨a, u, ha, he, (Host.Outcome.next.inj ht).symm⟩

/-! ### The access table (10_state.md R53) -/

/-- From `s` to `t` only the state of the access table's row for `op` is written; RESP, DIAG and BUSY are left out, as every
packet writes them. -/
structure WritesOnly (op : Op) (s t : State) : Prop where
  pix : writesPix op = false → t.pix = s.pix
  tps : op ≠ .setTps → t.tps = s.tps
  now : t.now = s.now
  slot : writesSlot op = false → t.slot = s.slot
  controls : writesControls op = false → t.controls = s.controls
  status : writesStatus op = false → t.status = s.status ∧ t.statusLen = s.statusLen
  stage : op ≠ .statusStage → t.stage = s.stage
  notify : writesNotify op = false → t.notifyCount = s.notifyCount ∧ t.notifyOut = s.notifyOut
  beats : t.beats = s.beats
  resetAsserted : t.resetAsserted = s.resetAsserted
  heldStrobes : t.heldStrobes = s.heldStrobes
  agenda : t.agenda = s.agenda
  exportData : t.exportData = s.exportData
  freeCount : t.freeCount = s.freeCount
  params : t.params = s.params

theorem WritesOnly.refl (op : Op) (s : State) : WritesOnly op s s where
  pix _ := rfl
  tps _ := rfl
  now := rfl
  slot _ := rfl
  controls _ := rfl
  status _ := ⟨rfl, rfl⟩
  stage _ := rfl
  notify _ := ⟨rfl, rfl⟩
  beats := rfl
  resetAsserted := rfl
  heldStrobes := rfl
  agenda := rfl
  exportData := rfl
  freeCount := rfl
  params := rfl

/-- Presenting a response writes RESP, DIAG and BUSY alone. -/
theorem WritesOnly.answered {op : Op} {s u : State} (h : WritesOnly op s u) (a : Response) :
    WritesOnly op s (respond a u) := { h with }

/-- Each effect writes the registers of its command's row. -/
theorem Effect.writesOnly {s u : State} {i : Instr} (he : Effect s i u) : WritesOnly i.op s u := by
  have hs := WritesOnly.refl i.op s
  cases he with
  | keeps => exact hs
  | paints _ _ hw => exact { hs with pix := fun h => absurd (hw.symm.trans h) (by decide) }
  | setsTps => exact { hs with tps := fun h => absurd rfl h }
  | loadsSlot => exact { hs with slot := fun h => absurd h (by simp [writesSlot, Instr.op]) }
  | stops => exact { hs with slot := fun h => absurd h (by decide) }
  | retires => exact { hs with pix := fun h => absurd h (by decide), slot := fun h => absurd h (by decide) }
  | setsControls =>
    exact { hs with
      controls := fun h => absurd h (by simp [writesControls, Instr.op])
      notify := fun h => absurd h (by simp [writesNotify, Instr.op]) }
  | stages => exact { hs with stage := fun h => absurd rfl h }
  | commits =>
    exact { hs with
      status := fun h => absurd h (by simp [writesStatus, Instr.op])
      notify := fun h => absurd h (by simp [writesNotify, Instr.op]) }
  | clearsStatus =>
    exact { hs with
      controls := fun h => absurd h (by decide)
      status := fun h => absurd h (by decide)
      notify := fun h => absurd h (by decide) }

theorem exec_writesOnly {i : Instr} {s t : State} (h : exec i s = .next t) : WritesOnly i.op s t := by
  obtain ⟨a, u, _, he, rfl⟩ | ⟨rfl, rfl⟩ := exec_cases h
  · exact he.writesOnly.answered a
  · exact { WritesOnly.refl Op.clearDiag s with }

/-- Every command ends with BUSY = 0 (70_reset_and_hazards.md R333). -/
theorem exec_busy {i : Instr} {s t : State} (h : exec i s = .next t) : t.busy = false := by
  obtain ⟨a, u, _, _, rfl⟩ | ⟨_, rfl⟩ := exec_cases h <;> rfl

/-- Settles O43: each effect of the inversion of `exec` writes only its row of the access table. -/
theorem packetsWriteOnlyTheirState : Obligations.PacketsWriteOnlyTheirState := by
  intro i s t h
  have hw := exec_writesOnly h
  exact ⟨hw.pix, hw.tps, hw.now, hw.slot, hw.controls, hw.status, hw.stage, hw.notify, exec_busy h, hw.beats,
    hw.resetAsserted, hw.heldStrobes, hw.agenda, hw.exportData, hw.freeCount, hw.params⟩

/-! ### Earlier flags (10_state.md R54) -/

/-- Settles O56: a command's answer and effect are fixed before the response and DIAG of the past are given. -/
theorem earlierFlagsSteerNothing : Obligations.EarlierFlagsSteerNothing := by
  intro s r d
  refine ⟨fun i t hi h => ?_, fun t h => ?_, ?_⟩
  · obtain ⟨a, u, _, _, hans⟩ := completes_of_ne_clearDiag i s hi
    have ht : respond a (withFlags s.resp s.diag u) = t :=
      Host.Outcome.next.inj ((hans s.resp s.diag).symm.trans h)
    subst ht
    exact hans r d
  · rw [exec_clearDiag] at h ⊢
    cases h
    have hdata : d.setWidth 32 = 0#29 ++ d := by simp [BitVec.setWidth_eq_append]
    simp only [hdata]; rfl
  · simp only [rejectIllegal_eq, respond, stickyDiag_illResponse]; rfl

/-! ### The invariant -/

theorem slotOk_idle : SlotOk Slot.idle := by constructor <;> simp [Slot.idle]

/-- The invariant holds once the reset input is asserted, whatever was in progress. -/
theorem inv_assertReset {s : State} (hp : s.params.legal) : Inv (assertReset s) where
  tpsRange := by simp
  slotOk := slotOk_idle
  statusFits := by simp
  statusTail i _ := rfl
  statusForm := rfl
  stageForm := rfl
  stageFits := rfl
  oneFlag := atMostOneFlag_okResponse 0#32
  resetHeld _ := rfl
  beatsFew := by simp
  heldBusy _ := rfl
  paramsLegal := hp

theorem Inv.releaseReset {s : State} (hs : Inv s) : Inv { s with resetAsserted := false } :=
  { hs with resetHeld := fun h => Bool.noConfusion h }

/-- Settles O9: the reset state is the one an asserted reset input shows, released. -/
theorem invariantHoldsAtReset : Obligations.InvariantHoldsAtReset :=
  (inv_assertReset (s := State.reset) (by decide)).releaseReset

/-- The slot RUN_ANIM loads meets the slot invariant. -/
theorem slotOk_loaded (filled : Bool) (sx sy : BitVec 8) (dur keep : BitVec 32) (c : Colour) (start : BitVec 64)
    (hdur : millis dur ≠ 0) :
    SlotOk { active := true, kind := 0#4, sx := sx, sy := sy, scolor := c, sfill := filled,
             maxr := BitVec.ofInt 8 (splashMaxRadius (centre sx) (centre sy)), duration := dur, keep := keep,
             start := start } := by
  obtain ⟨hlo, hhi⟩ := splashMaxRadius_range sx sy
  have hmaxr : ((BitVec.ofInt 8 (splashMaxRadius (centre sx) (centre sy))).toNat : Int) =
      splashMaxRadius sx.toInt sy.toInt := toNat_ofInt_of_range (by unfold centre; omega) (by unfold centre; omega)
  exact {
    idle := fun h => Bool.noConfusion h
    splash := fun _ => rfl
    lasts := fun _ => Nat.one_le_iff_ne_zero.mpr hdur
    radius := fun _ => hmaxr
    radiusLo := fun _ => by dsimp only; omega
    radiusHi := fun _ => by dsimp only; omega }

/-- Outside reset the invariant says nothing about the reset values. -/
theorem resetHeld_of_released {s : State} (hr : s.resetAsserted = false) : s.resetAsserted = true → assertReset s = s :=
  fun h => absurd (hr.symm.trans h) Bool.false_ne_true

/-- Outside reset every effect of a well-formed command keeps the invariant, each clause by the register it speaks of. -/
theorem Effect.inv {s u : State} {i : Instr} (he : Effect s i u) (hwf : i.wf = true) (hs : Inv s)
    (hr : s.resetAsserted = false) : Inv u := by
  cases he with
  | keeps => exact hs
  | paints => exact { hs with resetHeld := resetHeld_of_released hr }
  | setsTps value => exact { hs with tpsRange := clampTps_toNat_le _, resetHeld := resetHeld_of_released hr }
  | loadsSlot kind filled sx sy dur keep color hdur =>
    obtain rfl : kind = 0#4 := by simpa [Instr.wf] using hwf
    exact { hs with slotOk := slotOk_loaded _ _ _ _ _ _ _ hdur, resetHeld := resetHeld_of_released hr }
  | stops => exact { hs with slotOk := slotOk_idle, resetHeld := resetHeld_of_released hr }
  | retires => exact { hs with slotOk := slotOk_idle, resetHeld := resetHeld_of_released hr }
  | setsControls => exact { hs with resetHeld := resetHeld_of_released hr }
  | stages offset count bytes hfits =>
    exact { hs with
      stageForm := Memory.wf_writeRun _ _ _ hs.stageForm
      stageFits := Memory.below_writeRun _ _ hs.stageFits hfits
      resetHeld := resetHeld_of_released hr }
  | commits len hfits =>
    exact { hs with
      statusFits := hfits
      statusTail := fun i hi => (Memory.read_takeBelow _ i _).trans (if_neg (Nat.not_lt.mpr hi))
      statusForm := Memory.wf_takeBelow _ hs.stageForm
      resetHeld := resetHeld_of_released hr }
  | clearsStatus =>
    exact { hs with
      statusFits := Nat.zero_le _
      statusTail := fun _ _ => rfl
      statusForm := rfl
      resetHeld := resetHeld_of_released hr }

/-- Ending a packet (a response, another DIAG, BUSY = 0, the held strobes added to NOW) keeps the invariant. -/
theorem Inv.packetDone {u : State} (hu : Inv u) (hr : u.resetAsserted = false) {a : Response} (ha : AtMostOneFlag a)
    (d : BitVec 3) : Inv (deliverHeldStrobes (complete a { u with diag := d })) :=
  { hu with
    oneFlag := ha
    resetHeld := resetHeld_of_released hr
    heldBusy := fun _ => rfl }

/-- A decoded command with the held strobes after it keeps the invariant. -/
theorem exec_keeps_inv {i : Instr} {s t : State} (hs : Inv s) (hr : s.resetAsserted = false) (hwf : i.wf = true)
    (h : exec i s = .next t) : Inv (deliverHeldStrobes t) := by
  obtain ⟨a, u, ha, he, rfl⟩ | ⟨_, rfl⟩ := exec_cases h
  · exact (he.inv hwf hs hr).packetDone (he.writesOnly.resetAsserted.trans hr) ha _
  · exact hs.packetDone hr (atMostOneFlag_okResponse _) _

/-- While reset is asserted no packet is in flight. -/
theorem Inv.not_resetAsserted {s : State} (hs : Inv s) {p : Packet} (hp : s.inFlight = some p) :
    s.resetAsserted = false := by
  by_contra h
  have hreset := congrArg State.inFlight (hs.resetHeld (by simpa using h))
  exact Option.some_ne_none p (hp.symm.trans hreset.symm)

theorem afterPacket_eq_next {o : Host.Outcome State Fault Refusal} {t : State} (h : afterPacket o = .next t) :
    ∃ u, o = .next u ∧ t = deliverHeldStrobes u := by
  cases o with
  | next u => exact ⟨u, rfl, (Host.Outcome.next.inj h).symm⟩
  | fault => cases h
  | refused => cases h

/-- The ENGINE's turn keeps the invariant, with a legal packet, an illegal one or none. -/
theorem engineTurn_keeps_inv {s t : State} (hs : Inv s) (h : engineTurn s = .next t) : Inv t := by
  cases hp : s.inFlight with
  | none => rw [engineTurn_idle hp] at h; cases h; exact hs
  | some p =>
    have hr := hs.not_resetAsserted hp
    obtain ⟨i, hd, he⟩ | ⟨_, _, he⟩ := engineTurn_cases hp
    · obtain ⟨u, hu, rfl⟩ := afterPacket_eq_next (he.symm.trans h)
      exact exec_keeps_inv hs hr (wf_of_decode hd) hu
    · cases he.symm.trans h
      exact hs.packetDone hr atMostOneFlag_illResponse _

/-- Taking a turn off the agenda and ending the NOTIFY pulse keeps the invariant. -/
theorem Inv.turnTaken {s : State} (hs : Inv s) (rest : List Turn) : Inv { s with notifyOut := false, agenda := rest } :=
  { hs with resetHeld := fun h =>
      congrArg (fun s : State => { s with notifyOut := false, agenda := rest }) (hs.resetHeld h) }

theorem presentPacket_keeps_inv {s : State} (hs : Inv s) (p : Packet) : Inv (presentPacket p s) := by
  unfold presentPacket
  split_ifs with hr
  · exact hs
  · exact { hs with resetHeld := fun h => absurd h hr, heldBusy := fun h => Bool.noConfusion h }

theorem takeBeat_keeps_inv {s : State} (hs : Inv s) (w : BitVec 32) : Inv (takeBeat w s) := by
  obtain ⟨_, h⟩ | ⟨hr, hlen, h⟩ | ⟨b0, b1, b2, hr, _, h⟩ := takeBeat_cases w s <;> rw [h]
  · exact hs
  · have hfew := hs.beatsFew
    exact { hs with
      resetHeld := resetHeld_of_released hr
      beatsFew := by simp only [List.length_append, List.length_singleton]; omega }
  · exact { hs with
      resetHeld := resetHeld_of_released hr
      beatsFew := Nat.zero_le 3
      heldBusy := fun h => Bool.noConfusion h }

theorem strobe_keeps_inv {s : State} (hs : Inv s) : Inv (strobe s) := by
  obtain ⟨_, h⟩ | ⟨hr, _, h⟩ | ⟨hr, hb, h | h⟩ := strobe_cases s <;> rw [h]
  · exact hs
  · exact { hs with resetHeld := resetHeld_of_released hr }
  · exact { hs with resetHeld := resetHeld_of_released hr }
  · exact { hs with
      resetHeld := resetHeld_of_released hr
      heldBusy := fun h => absurd (hb.symm.trans h) (by decide) }

/-- A read changes only what the HOST holds, which the reset input leaves alone. -/
theorem exportRead_keeps_inv {s : State} (hs : Inv s) (a : BitVec 12) : Inv (exportRead a s) := by
  have hread (v : BitVec 32) (n : Nat) : Inv { s with exportData := v, freeCount := n } :=
    { hs with resetHeld := fun h =>
        congrArg (fun s : State => { s with exportData := v, freeCount := n }) (hs.resetHeld h) }
  obtain ⟨_, h⟩ | ⟨_, h⟩ := exportRead_cases a s <;> rw [h] <;> exact hread _ _

theorem setResetInput_keeps_inv {s : State} (hs : Inv s) (asserted : Bool) : Inv (setResetInput asserted s) := by
  cases asserted with
  | true => exact inv_assertReset hs.paramsLegal
  | false => exact hs.releaseReset

/-- Every agent's turn keeps the invariant. -/
theorem takeTurn_keeps_inv {s t : State} (hs : Inv s) (turn : Turn) (h : takeTurn turn s = .next t) : Inv t := by
  cases turn with
  | engine => exact engineTurn_keeps_inv hs h
  | present p => cases h; exact presentPacket_keeps_inv hs p
  | beat w => cases h; exact takeBeat_keeps_inv hs w
  | read a => cases h; exact exportRead_keeps_inv hs a
  | write a v => cases h; exact hs
  | strobe => cases h; exact strobe_keeps_inv hs
  | resetInput asserted => cases h; exact setResetInput_keeps_inv hs asserted

/-- Settles O10, by the agent whose turn it is: the ENGINE's step by the inversion of `exec`, the others by what their turn
does. -/
theorem everyStepKeepsTheInvariant : Obligations.EveryStepKeepsTheInvariant := by
  intro s t hs h
  cases ha : s.agenda with
  | nil => exact engineTurn_keeps_inv (hs.turnTaken s.agenda) ((step_of_no_turn ha).symm.trans h)
  | cons turn rest =>
    cases hh : hostHolds turn s with
    | true => exact engineTurn_keeps_inv (hs.turnTaken s.agenda) ((step_of_held ha hh).symm.trans h)
    | false => exact takeTurn_keeps_inv (hs.turnTaken rest) turn ((step_of_turn ha hh).symm.trans h)

/-! ### The reset values and the strobe -/

/-- Settles O11: each register's reset value, as the spec's table gives it. -/
theorem resetHoldsTheSpecValues : Obligations.ResetHoldsTheSpecValues := by
  have hpix : ∀ i, i < 144 → cellAt State.reset.pix i = 0#24 := cellAt_solid 0#24
  exact ⟨hpix, rfl, rfl, rfl, rfl, rfl, Memory.read_nil, rfl, Memory.read_nil, rfl, rfl, rfl, rfl⟩

/-- Settles O16: between packets and outside reset the strobe's turn is NOW + 1. -/
theorem strobeAdvancesNow : Obligations.StrobeAdvancesNow := by
  intro s rest ha hb hr
  have hstrobe : strobe { s with notifyOut := false, agenda := rest } =
      { s with notifyOut := false, agenda := rest, now := s.now + 1#64 } := by
    obtain ⟨h, _⟩ | ⟨_, _, h⟩ | ⟨_, h, _⟩ := strobe_cases { s with notifyOut := false, agenda := rest }
    · exact absurd (hr.symm.trans h) (by decide)
    · exact h
    · exact absurd (hb.symm.trans h) (by decide)
  refine ⟨_, (step_of_turn ha rfl).trans (congrArg Host.Outcome.next hstrobe), ?_, rfl⟩
  simp [BitVec.toNat_add]

end Sys2Proof.Safety
end

section
/-! PROOFS. The memory family (20_memory.md): the ENGINE's turn runs the accepted packet (R77), four beats make a packet (R74),
a strobe while BUSY = 1 is kept (R81), and what a read of the HOST's port returns (R72, R73, R78). -/

namespace Sys2Proof.Safety

open Sys2Proof.Machine

/-! ### The ENGINE's turn -/

/-- In each of its three forms the ENGINE's turn is its move on the turns left. -/
theorem step_of_enginesTurn {s : State} {rest : List Turn} (h : EnginesTurn s rest) :
    step s = engineTurn { s with agenda := rest, notifyOut := false } := by
  obtain ha | ⟨ha, rfl⟩ | ⟨⟨hb, _, ⟨q, ha⟩ | ⟨w, ha⟩⟩, rfl⟩ := h
  · exact step_of_turn ha rfl
  · exact (step_of_no_turn ha).trans (by rw [ha])
  · exact step_of_held ha hb
  · exact step_of_held ha hb

/-- The ENGINE's move on a legal packet is its command, and then the strobes held back. -/
theorem engineTurn_of_decode {s : State} {p : Packet} {i : Instr} (hp : s.inFlight = some p) (hd : decode p = .ok i) :
    engineTurn s = afterPacket (exec i s) := by
  obtain ⟨j, hj, h⟩ | ⟨e, he, _⟩ := engineTurn_cases hp
  · cases hd.symm.trans hj; exact h
  · cases hd.symm.trans he

/-- Every command answers a next state: no command stops the block (60_exceptions.md R305). -/
theorem exec_completes (i : Instr) (s : State) : ∃ t, exec i s = .next t := by
  by_cases hi : i = .clearDiag
  · subst hi; exact ⟨_, exec_clearDiag s⟩
  · obtain ⟨a, u, _, _, hans⟩ := completes_of_ne_clearDiag i s hi
    exact ⟨_, hans s.resp s.diag⟩

/-- Settles O6: the ENGINE's turn is the decoded command, which always completes, with the held strobes after it. -/
theorem stepRunsTheAcceptedPacket : Obligations.StepRunsTheAcceptedPacket := by
  intro s p i rest hturn hp hd
  obtain ⟨t, ht⟩ := exec_completes i { s with agenda := rest, notifyOut := false }
  refine ⟨t, ht, ?_⟩
  calc step s = engineTurn { s with agenda := rest, notifyOut := false } := step_of_enginesTurn hturn
    _ = afterPacket (exec i { s with agenda := rest, notifyOut := false }) := engineTurn_of_decode hp hd
    _ = .next (deliverHeldStrobes t) := by rw [ht, afterPacket_next]

/-! ### Beats -/

/-- A beat that is not the fourth is stored behind the others. -/
theorem takeBeat_stores {s : State} (w : BitVec 32) (hr : s.resetAsserted = false) (hfew : s.beats.length < 3) :
    takeBeat w s = { s with beats := s.beats ++ [w] } := by
  obtain ⟨h, _⟩ | ⟨_, _, h⟩ | ⟨_, _, _, _, hb, _⟩ := takeBeat_cases w s
  · exact absurd (hr.symm.trans h) (by decide)
  · exact h
  · simp [hb] at hfew

/-- The fourth beat completes the packet, which is accepted. -/
theorem takeBeat_fourth {s : State} {b0 b1 b2 : BitVec 32} (w : BitVec 32) (hr : s.resetAsserted = false)
    (hb : s.beats = [b0, b1, b2]) :
    takeBeat w s = { s with beats := [], inFlight := some (b0 ++ b1 ++ b2 ++ w) } := by
  obtain ⟨h, _⟩ | ⟨_, hlen, _⟩ | ⟨_, _, _, _, hb', h⟩ := takeBeat_cases w s
  · exact absurd (hr.symm.trans h) (by decide)
  · simp [hb] at hlen
  · cases hb.symm.trans hb'; exact h

/-- The four words of a packet, most significant first, are the packet (20_memory.md R74). -/
theorem packet_of_words (p : Packet) :
    p.extractLsb' 96 32 ++ p.extractLsb' 64 32 ++ p.extractLsb' 32 32 ++ p.extractLsb' 0 32 = p := by
  rw [extractLsb'_glue p 32 32 64, extractLsb'_glue p _ 32 32, extractLsb'_glue p _ 32 0]
  exact extractLsb'_whole p

/-- `s` after a step that left the turns `rest` and the stored beats `bs`, and changed nothing else. -/
def withBeats (bs : List (BitVec 32)) (rest : List Turn) (s : State) : State :=
  { s with agenda := rest, notifyOut := false, beats := bs }

/-- While BUSY = 0 and reset is released, the step of a beat that is not the fourth stores it and does nothing else. -/
theorem step_of_early_beat {s : State} {w : BitVec 32} {bs : List (BitVec 32)} {rest : List Turn}
    (ha : s.agenda = .beat w :: rest) (hb : s.busy = false) (hr : s.resetAsserted = false) (hbeats : s.beats = bs)
    (hfew : bs.length < 3) : step s = .next (withBeats (bs ++ [w]) rest s) := by
  subst hbeats
  exact (step_of_turn ha hb).trans (congrArg Host.Outcome.next (takeBeat_stores w hr hfew))

/-- While BUSY = 0 and reset is released, the step of the fourth beat accepts the packet and keeps no beat. -/
theorem step_of_fourth_beat {s : State} {b0 b1 b2 w : BitVec 32} {rest : List Turn} (ha : s.agenda = .beat w :: rest)
    (hb : s.busy = false) (hr : s.resetAsserted = false) (hbeats : s.beats = [b0, b1, b2]) :
    step s = .next (acceptPacket (b0 ++ b1 ++ b2 ++ w) (withBeats [] rest s)) :=
  (step_of_turn ha hb).trans (congrArg Host.Outcome.next (takeBeat_fourth w hr hbeats))

/-- A run whose first step answers `t` goes on from `t`. -/
theorem run_succ_of_step {s t : State} (h : step s = .next t) (k : Nat) :
    Sys2Proof.core.run (k + 1) s = Sys2Proof.core.run k t := by
  have hcore : Sys2Proof.core.step s = .next t := h
  simp only [Host.Core.run, hcore]

/-- Four beats in a row, none stored before: three steps store three of them, and the fourth accepts their packet. -/
theorem run_of_four_beats {s : State} {b0 b1 b2 b3 : BitVec 32} {rest : List Turn} (hb : s.busy = false)
    (hr : s.resetAsserted = false) (hbeats : s.beats = [])
    (ha : s.agenda = .beat b0 :: .beat b1 :: .beat b2 :: .beat b3 :: rest) :
    Sys2Proof.core.run 3 s = .next (withBeats [b0, b1, b2] (.beat b3 :: rest) s) ∧
      Sys2Proof.core.run 4 s = .next (acceptPacket (b0 ++ b1 ++ b2 ++ b3) (withBeats [] rest s)) := by
  have h0 : step s = .next (withBeats [b0] (.beat b1 :: .beat b2 :: .beat b3 :: rest) s) :=
    step_of_early_beat ha hb hr hbeats (by decide)
  have h1 : step (withBeats [b0] (.beat b1 :: .beat b2 :: .beat b3 :: rest) s) =
      .next (withBeats [b0, b1] (.beat b2 :: .beat b3 :: rest) s) :=
    step_of_early_beat (s := withBeats [b0] _ s) (bs := [b0]) rfl hb hr rfl (by simp)
  have h2 : step (withBeats [b0, b1] (.beat b2 :: .beat b3 :: rest) s) =
      .next (withBeats [b0, b1, b2] (.beat b3 :: rest) s) :=
    step_of_early_beat (s := withBeats [b0, b1] _ s) (bs := [b0, b1]) rfl hb hr rfl (by simp)
  have h3 : step (withBeats [b0, b1, b2] (.beat b3 :: rest) s) =
      .next (acceptPacket (b0 ++ b1 ++ b2 ++ b3) (withBeats [] rest s)) :=
    step_of_fourth_beat (s := withBeats [b0, b1, b2] _ s) rfl hb hr rfl
  have hthree (k : Nat) : Sys2Proof.core.run (k + 3) s =
      Sys2Proof.core.run k (withBeats [b0, b1, b2] (.beat b3 :: rest) s) :=
    (run_succ_of_step h0 _).trans ((run_succ_of_step h1 _).trans (run_succ_of_step h2 k))
  exact ⟨hthree 0, (hthree 1).trans (run_succ_of_step h3 0)⟩

/-- Settles O15: three beats are stored one by one, and the fourth joins the four words to the packet. -/
theorem fourBeatsMakeAPacket : Obligations.FourBeatsMakeAPacket := by
  intro s p rest hb hr hbeats ha
  obtain ⟨hthree, hfour⟩ := run_of_four_beats hb hr hbeats ha
  rw [packet_of_words, ← hbeats] at hfour
  exact ⟨hthree, hfour⟩

/-! ### A strobe while BUSY = 1 -/

/-- Settles O17: of the two orders a strobe may take while BUSY = 1, one counts in NOW and the other in the held strobes. -/
theorem busyStrobeIsNotLost : Obligations.BusyStrobeIsNotLost := by
  intro s rest ha hb hr
  have hstep : step s = .next (strobe { s with notifyOut := false, agenda := rest }) := step_of_turn ha rfl
  obtain ⟨h, _⟩ | ⟨_, h, _⟩ | ⟨_, _, h | h⟩ := strobe_cases { s with notifyOut := false, agenda := rest }
  · exact absurd (hr.symm.trans h) (by decide)
  · exact absurd (hb.symm.trans h) (by decide)
  · refine ⟨_, hstep.trans (congrArg _ h), ?_, .inl ⟨rfl, rfl⟩, rfl⟩
    exact add_right_comm ..
  · refine ⟨_, hstep.trans (congrArg _ h), ?_, .inr ⟨rfl, rfl⟩, rfl⟩
    simp only [BitVec.ofNat_add, BitVec.add_assoc]

/-! ### The words the HOST reads -/

/-- A field narrower than a word reads with 0 above it. -/
theorem setWidth_eq_zero_append {w n : Nat} (x : BitVec w) : x.setWidth (n + w) = 0#n ++ x := by
  apply BitVec.eq_of_toNat_eq
  have hfits : x.toNat < 2 ^ (n + w) := x.isLt.trans_le (Nat.pow_le_pow_right (by decide) (Nat.le_add_left w n))
  simp [Nat.mod_eq_of_lt hfits]

/-- Words 0x000 to 0x08F are the pixels, by index (20_memory.md R72). -/
theorem exportWord_pixel {s : State} {a : BitVec 12} (h : a.toNat ≤ 0x08F) :
    exportWord s a = 0#8 ++ cellAt s.pix a.toNat :=
  (if_pos (by omega)).trans (setWidth_eq_zero_append _)

/-- Word 0x090, ENGINE_STATUS: BUSY and ACTIVE (20_memory.md R72). -/
theorem exportWord_engineStatus (s : State) :
    exportWord s 0x090 = 0#30 ++ BitVec.ofBool s.slot.active ++ BitVec.ofBool s.busy := by
  cases h : s.slot.active <;> cases h' : s.busy <;> simp [exportWord, h, h']

/-- Above the slot's words, the status window starts at 0x100; what lies before it or past its end is reserved and reads 0
(20_memory.md R72). -/
theorem exportWord_above_slot (s : State) {a : BitVec 12} (h : 0x09E ≤ a.toNat) :
    exportWord s a =
      if 0x100 ≤ a.toNat ∧ a.toNat - 0x100 < s.params.statusCap / 4 then statusWord s.status (a.toNat - 0x100) else 0#32 := by
  have hne (n : Nat) (hn : n < 0x09E) : a.toNat ≠ n := by omega
  have hpix : ¬ a.toNat < 144 := by omega
  simp [exportWord, hpix, hne]

/-- Settles O18: the registers' words by evaluation of the map, the pixels, the status window and the reserved words by the
range they lie in. -/
theorem exportPortMap : Obligations.ExportPortMap := by
  intro s a
  refine ⟨exportWord_pixel, ?engineStatus, ?diag, ?tps, ?controls, ?statusLen, ?notifyCount, ?nowLow, ?nowHigh, ?slotConfig,
    ?slotColour, ?slotDuration, ?slotKeep, ?startLow, ?startHigh, ?reserved, ?window, ?pastWindow⟩
  case engineStatus => rintro rfl; exact exportWord_engineStatus s
  case diag | tps | controls | statusLen | slotColour => rintro rfl; rw [← setWidth_eq_zero_append]; rfl
  case notifyCount | nowLow | nowHigh | slotConfig | slotDuration | slotKeep | startLow | startHigh => rintro rfl; rfl
  case reserved =>
    intro hlo hhi
    exact (exportWord_above_slot s hlo).trans (if_neg (by omega))
  case window =>
    intro k hk hin
    rw [exportWord_above_slot s (by omega), hk, Nat.add_sub_cancel_left, if_pos ⟨Nat.le_add_right _ _, hin⟩]
    rfl
  case pastWindow =>
    intro hout
    exact (exportWord_above_slot s (by omega)).trans (if_neg (by omega))

/-- A read the spec defines records the word of the map. -/
theorem exportRead_of_specified {s : State} {a : BitVec 12} (h : exportUnspecified s a = false) :
    exportRead a s = { s with exportData := exportWord s a } := by
  simp [exportRead, h]

/-- Between packets every word is specified (20_memory.md R73). -/
theorem exportUnspecified_of_not_busy {s : State} (a : BitVec 12) (hb : s.busy = false) (hr : s.resetAsserted = false) :
    exportUnspecified s a = false := by
  simp [exportUnspecified, hb, hr]

/-- While BUSY = 1 every word but 0x090 is unspecified (20_memory.md R78). -/
theorem exportUnspecified_of_busy {s : State} (a : BitVec 12) (hb : s.busy = true) (hr : s.resetAsserted = false) :
    exportUnspecified s a = (a != 0x090) := by
  simp [exportUnspecified, hb, hr]

/-- Settles O19: between packets every word is specified, so the read records its value; a write has no path. -/
theorem exportReadChangesNothing : Obligations.ExportReadChangesNothing := by
  intro s rest a
  refine ⟨fun ha hb hr => ?_, fun v ha => step_of_turn ha rfl⟩
  exact (step_of_turn ha rfl).trans
    (congrArg Host.Outcome.next (exportRead_of_specified (exportUnspecified_of_not_busy a hb hr)))

/-- Settles O20: word 0x090 is specified and shows BUSY = 1; any other word is a free draw. -/
theorem busyExportRead : Obligations.BusyExportRead := by
  intro s rest a ha hb hr
  have hstep : step s = .next (exportRead a { s with notifyOut := false, agenda := rest }) := step_of_turn ha rfl
  have hfree := exportUnspecified_of_busy (s := { s with notifyOut := false, agenda := rest }) a hb hr
  constructor
  · rintro rfl
    have hword : exportWord s 0x090 = 0#30 ++ BitVec.ofBool s.slot.active ++ 1#1 :=
      (exportWord_engineStatus s).trans (by rw [hb]; rfl)
    rw [hstep, exportRead_of_specified hfree, ← hword]
    rfl
  · intro hne
    obtain ⟨h, _⟩ | ⟨_, h⟩ := exportRead_cases a { s with notifyOut := false, agenda := rest }
    · exact absurd (hfree.symm.trans h) (by simpa using hne)
    · exact ⟨_, hstep.trans (congrArg Host.Outcome.next h)⟩

end Sys2Proof.Safety
end

section
/-! PROOFS. The encoding family (30_encoding.md): decode and encode are inverse on legal packets (R101 to R116), a row of the
opcode table matches exactly the legal packets of its command (R117), the unassigned opcodes (R115), the worked encodings
(R121), and the pseudo-instruction SET_STATUS (R125, 47_control_state.md R287). -/

namespace Sys2Proof.Safety

open Sys2Proof.Machine

/-! ### Legal fields -/

/-- The fields pass every check of the decode procedure (30_encoding.md R113) for the command `op`. -/
structure LegalFields (op : Op) (f : Fields) : Prop where
  opcode   : f.opc = op.code
  reserved : reservedClear op f = true
  ign      : f.ign = true → op.ignLegal = true
  fill     : f.fill = true → op.fillLegal = true
  kind     : f.kind = 0#4

/-- The decoder accepts exactly the legal fields, as the command of their opcode. -/
theorem decodeFields_eq_ok_iff {f : Fields} {i : Instr} :
    decodeFields f = .ok i ↔ LegalFields i.op f ∧ buildInstr i.op f = i := by
  unfold decodeFields
  constructor
  · intro h
    split at h
    · cases h
    next op hop =>
      split_ifs at h with hres hign hfill hkind
      obtain rfl := Decoded.ok.inj h
      rw [op_buildInstr]
      refine ⟨⟨(code_of_opOfCode hop).symm, by simpa using hres, by simpa using hign, by simpa using hfill,
        by simpa using hkind⟩, rfl⟩
  · rintro ⟨⟨hopc, hres, hign, hfill, hkind⟩, hi⟩
    rw [hopc, opOfCode_code]
    have hign' : (f.ign && !i.op.ignLegal) = false := by simpa using hign
    have hfill' : (f.fill && !i.op.fillLegal) = false := by simpa using hfill
    simp [hres, hkind, hi, hign', hfill']

/-- Legal fields decode to the command built from them. -/
theorem LegalFields.decodes {op : Op} {f : Fields} (h : LegalFields op f) : decodeFields f = .ok (buildInstr op f) :=
  decodeFields_eq_ok_iff.mpr (by rw [op_buildInstr]; exact ⟨h, rfl⟩)

/-! ### Decoding and encoding are inverse -/

/-- The encoder writes legal fields for every well-formed command. -/
theorem legalFields_encodeFields {i : Instr} (h : i.wf = true) : LegalFields i.op (encodeFields i) where
  opcode := by cases i <;> rfl
  reserved := by
    cases i with
    | setControls value => simpa [reservedClear, encodeFields, bareFields, Instr.op, Op.format, Instr.wf] using h
    | statusStage offset count bytes =>
      have hlow : (count ++ 0#8).extractLsb' 0 8 = 0#8 := BitVec.extractLsb'_append_eq_right
      simp [reservedClear, encodeFields, bareFields, Instr.op, Op.format, hlow]
    | _ => rfl
  ign := by cases i <;> simp [encodeFields, bareFields, Instr.op, Op.ignLegal]
  fill := by cases i <;> simp [encodeFields, bareFields, Instr.op, Op.fillLegal]
  kind := by
    cases i with
    | runAnim kind => simpa [encodeFields, Instr.wf] using h
    | _ => rfl

/-- The decoder builds from a command's own fields that command: each operand is read where it was written. -/
theorem buildInstr_encodeFields (i : Instr) : buildInstr i.op (encodeFields i) = i := by
  cases i with
  | runAnim kind filled sx sy dur keep color =>
    have hsx : (sx ++ sy).extractLsb' 8 8 = sx := BitVec.extractLsb'_append_eq_left
    have hsy : (sx ++ sy).extractLsb' 0 8 = sy := BitVec.extractLsb'_append_eq_right
    have hdur : dur.extractLsb' 16 16 ++ dur.extractLsb' 0 16 = dur :=
      (extractLsb'_glue dur 16 16 0).trans (extractLsb'_whole dur)
    have hkeep : keep.extractLsb' 16 16 ++ keep.extractLsb' 0 16 = keep :=
      (extractLsb'_glue keep 16 16 0).trans (extractLsb'_whole keep)
    simp only [Instr.op, encodeFields, bareFields, buildInstr, hsx, hsy, hdur, hkeep]
  | statusStage offset count bytes =>
    have hcount : (count ++ 0#8).extractLsb' 8 8 = count := BitVec.extractLsb'_append_eq_left
    have hbytes : bytes.extractLsb' 48 16 ++ bytes.extractLsb' 32 16 ++ bytes.extractLsb' 0 32 = bytes := by
      rw [extractLsb'_glue bytes 16 16 32, extractLsb'_glue bytes _ 32 0]
      exact extractLsb'_whole bytes
    simp only [Instr.op, encodeFields, bareFields, buildInstr, hcount, hbytes]
  | _ => rfl

/-- Settles O1: the encoder's fields are legal, and the command is built back from them. -/
theorem decodeOfEncodeGivesTheCommand : Obligations.DecodeOfEncodeGivesTheCommand := by
  intro i hwf
  rw [decode, encode, splitPacket_joinFields, (legalFields_encodeFields hwf).decodes, buildInstr_encodeFields]

/-- The encoder writes legal fields back as they were: what the format reserves is 0 in both. -/
theorem encodeFields_buildInstr {op : Op} {f : Fields} (h : LegalFields op f) : encodeFields (buildInstr op f) = f := by
  obtain ⟨hopc, hres, hign, hfill, hkind⟩ := h
  obtain ⟨opc, kind, rsv, fill, ign, hi, a, b, c, d, color⟩ := f
  cases op with
  | runAnim =>
    have hcentre : hi.extractLsb' 8 8 ++ hi.extractLsb' 0 8 = hi :=
      (extractLsb'_glue hi 8 8 0).trans (extractLsb'_whole hi)
    simp_all [encodeFields, buildInstr, bareFields, reservedClear, Op.format, Op.ignLegal,
      BitVec.extractLsb'_append_eq_left (a := a) (b := b), BitVec.extractLsb'_append_eq_right (a := a) (b := b),
      BitVec.extractLsb'_append_eq_left (a := c) (b := d), BitVec.extractLsb'_append_eq_right (a := c) (b := d)]
  | statusStage =>
    have hcount : a.extractLsb' 8 8 ++ a.extractLsb' 0 8 = a :=
      (extractLsb'_glue a 8 8 0).trans (extractLsb'_whole a)
    have hc : (c ++ d ++ color).extractLsb' 48 16 = c :=
      (extractLsb'_append_high _ _ _ _ (by decide)).trans BitVec.extractLsb'_append_eq_left
    have hd : (c ++ d ++ color).extractLsb' 32 16 = d :=
      (extractLsb'_append_high _ _ _ _ (by decide)).trans BitVec.extractLsb'_append_eq_right
    simp_all [encodeFields, buildInstr, bareFields, reservedClear, Op.format, Op.ignLegal, Op.fillLegal,
      BitVec.extractLsb'_append_eq_right (a := c ++ d) (b := color)]
  -- every other format holds each operand in one field, as it stands
  | _ => simp_all [encodeFields, buildInstr, bareFields, reservedClear, Op.format, Op.ignLegal, Op.fillLegal]

/-- Settles O2: a packet that decodes has legal fields, and the encoder writes legal fields back. -/
theorem encodeOfDecodeGivesThePacket : Obligations.EncodeOfDecodeGivesThePacket := by
  intro p i h
  obtain ⟨hlegal, hbuild⟩ := decodeFields_eq_ok_iff.mp h
  refine ⟨wf_of_decode h, ?_⟩
  calc encode i = joinFields (encodeFields (buildInstr i.op (splitPacket p))) := by rw [hbuild, encode]
    _ = joinFields (splitPacket p) := by rw [encodeFields_buildInstr hlegal]
    _ = p := joinFields_splitPacket p

/-! ### The rows of the opcode table (30_encoding.md R117) -/

/-- The fields of a command's mask: 1 at the opcode, at KIND, at each flag the command may not set, and at every reserved bit
of its format (30_encoding.md R101 to R109, R111). -/
def maskFields (op : Op) : Fields where
  opc   := 0xFF
  kind  := 0xF
  rsv   := 0x3
  fill  := !op.fillLegal
  ign   := !op.ignLegal
  hi    := match op.format with
    | .a | .t | .l => 0
    | .n | .c | .p | .s | .v => 0xFFFF
  a     := match op.format with
    | .p | .s | .a => 0
    | .t => 0x00FF
    | .n | .c | .v | .l => 0xFFFF
  b     := match op.format with
    | .p | .s | .a => 0
    | .n | .c | .v | .t | .l => 0xFFFF
  c     := match op.format with
    | .s | .a | .t => 0
    | .n | .c | .p | .v | .l => 0xFFFF
  d     := match op.format with
    | .s => if op = .digit then 0xFFFF else 0
    | .a | .t => 0
    | .n | .c | .p | .v | .l => 0xFFFF
  color := match op.format with
    | .c | .s | .a | .t => 0
    | .p => if op = .set then 0 else 0xFFFFFFFF
    | .v => if op = .setControls then 0xFFFFFF00 else 0
    | .n | .l => 0xFFFFFFFF

/-- The row of `op` as its format gives it. -/
def rowOf (op : Op) : OpcodeRow := ⟨op, joinFields (bareFields op), joinFields (maskFields op)⟩

/-- The words the table writes out are those the formats give. -/
theorem opcodeRows_eq_map_rowOf : opcodeRows = Op.table.map rowOf := rfl

/-- The fields two sets of fields have in common, bit by bit. -/
def maskedBy (f m : Fields) : Fields where
  opc   := f.opc &&& m.opc
  kind  := f.kind &&& m.kind
  rsv   := f.rsv &&& m.rsv
  fill  := f.fill && m.fill
  ign   := f.ign && m.ign
  hi    := f.hi &&& m.hi
  a     := f.a &&& m.a
  b     := f.b &&& m.b
  c     := f.c &&& m.c
  d     := f.d &&& m.d
  color := f.color &&& m.color

theorem splitPacket_and (p q : Packet) : splitPacket (p &&& q) = maskedBy (splitPacket p) (splitPacket q) := by
  simp [splitPacket, maskedBy, BitVec.extractLsb'_and]

/-- Packets are equal when their fields are. -/
theorem splitPacket_inj {p q : Packet} : splitPacket p = splitPacket q ↔ p = q :=
  ⟨fun h => by rw [← joinFields_splitPacket p, h, joinFields_splitPacket], congrArg splitPacket⟩

/-- A row matches a packet when its mask leaves the opcode alone of the packet's fields. -/
theorem rowOf_matchesPacket_iff {op : Op} {p : Packet} :
    (rowOf op).matchesPacket p = true ↔ maskedBy (splitPacket p) (maskFields op) = bareFields op := by
  simp [OpcodeRow.matchesPacket, rowOf, ← splitPacket_inj, splitPacket_and, splitPacket_joinFields]

/-- A word has only zeros under a mask when each of its two parts has. -/
theorem and_append_eq_zero_iff {w v : Nat} (x : BitVec (w + v)) (m : BitVec w) (n : BitVec v) :
    x &&& (m ++ n) = 0#(w + v) ↔ x.extractLsb' v w &&& m = 0#w ∧ x.extractLsb' 0 v &&& n = 0#v := by
  have hzero : 0#w ++ 0#v = 0#(w + v) := by simp
  constructor
  · intro h
    have hhigh := congrArg (BitVec.extractLsb' v w) h
    have hlow := congrArg (BitVec.extractLsb' 0 v) h
    rw [BitVec.extractLsb'_and, ← hzero] at hhigh hlow
    simp only [BitVec.extractLsb'_append_eq_left, BitVec.extractLsb'_append_eq_right] at hhigh hlow
    exact ⟨hhigh, hlow⟩
  · rintro ⟨hhigh, hlow⟩
    have hx : x.extractLsb' v w ++ x.extractLsb' 0 v = x := by
      have := extractLsb'_glue x w v 0
      rw [Nat.zero_add] at this
      exact this.trans (extractLsb'_whole x)
    rw [← hx, BitVec.and_append, hhigh, hlow, hzero]

theorem and_low_byte_eq_zero_iff (x : BitVec 16) : x &&& 0x00FF#16 = 0#16 ↔ x.extractLsb' 0 8 = 0#8 := by
  have h := and_append_eq_zero_iff (w := 8) (v := 8) x 0#8 (BitVec.allOnes 8)
  rw [BitVec.and_zero, BitVec.and_allOnes] at h
  exact h.trans (and_iff_right rfl)

theorem and_above_mask_eq_zero_iff (x : BitVec 32) : x &&& 0xFFFFFF00#32 = 0#32 ↔ x.extractLsb' 8 24 = 0#24 := by
  have h := and_append_eq_zero_iff (w := 24) (v := 8) x (BitVec.allOnes 24) 0#8
  rw [BitVec.and_zero, BitVec.and_allOnes] at h
  exact h.trans (and_iff_left rfl)

theorem and_ones16 (x : BitVec 16) : x &&& 0xFFFF#16 = x := BitVec.and_allOnes
theorem and_ones32 (x : BitVec 32) : x &&& 0xFFFFFFFF#32 = x := BitVec.and_allOnes

/-- The reserved bits are those the mask keeps below the flags. -/
theorem reservedClear_iff {op : Op} {f : Fields} : reservedClear op f = true ↔
    f.rsv = 0#2 ∧ f.hi &&& (maskFields op).hi = 0#16 ∧ f.a &&& (maskFields op).a = 0#16 ∧
      f.b &&& (maskFields op).b = 0#16 ∧ f.c &&& (maskFields op).c = 0#16 ∧ f.d &&& (maskFields op).d = 0#16 ∧
      f.color &&& (maskFields op).color = 0#32 := by
  cases hf : op.format with
  | p =>
    simp only [reservedClear, maskFields, hf]
    by_cases hop : op = .set <;> simp [hop, and_ones16, and_ones32, and_assoc]
  | s =>
    simp only [reservedClear, maskFields, hf]
    by_cases hop : op = .digit <;> simp [hop, and_ones16]
  | v =>
    simp only [reservedClear, maskFields, hf]
    by_cases hop : op = .setControls <;> simp [hop, and_ones16, and_above_mask_eq_zero_iff, and_assoc]
  | t => simp [reservedClear, maskFields, hf, and_ones16, and_low_byte_eq_zero_iff]
  | _ => simp [reservedClear, maskFields, hf, and_ones16, and_ones32, and_assoc]

/-- Of legal fields, and of no others, the mask leaves the opcode alone. -/
theorem maskedBy_eq_bareFields_iff {op : Op} {f : Fields} :
    maskedBy f (maskFields op) = bareFields op ↔ LegalFields op f := by
  have hopc : f.opc &&& (maskFields op).opc = f.opc := BitVec.and_allOnes
  have hkind : f.kind &&& (maskFields op).kind = f.kind := BitVec.and_allOnes
  have hrsv : f.rsv &&& (maskFields op).rsv = f.rsv := BitVec.and_allOnes
  have hfill : (f.fill && (maskFields op).fill) = false ↔ (f.fill = true → op.fillLegal = true) := by
    simp [maskFields]
  have hign : (f.ign && (maskFields op).ign) = false ↔ (f.ign = true → op.ignLegal = true) := by
    simp [maskFields]
  simp only [maskedBy, bareFields, Fields.mk.injEq, hopc, hkind, hrsv, hfill, hign]
  constructor
  · rintro ⟨hopc, hkind, hrsv, hfill, hign, hpayload⟩
    exact ⟨hopc, reservedClear_iff.mpr ⟨hrsv, hpayload⟩, hign, hfill, hkind⟩
  · rintro ⟨hopc, hres, hign, hfill, hkind⟩
    obtain ⟨hrsv, hpayload⟩ := reservedClear_iff.mp hres
    exact ⟨hopc, hkind, hrsv, hfill, hign, hpayload⟩

/-- The mnemonics of the rows that match a packet are those for which its fields are legal. -/
theorem ops_of_matching_rows (p : Packet) :
    (opcodeRows.filter (fun r => r.matchesPacket p)).map (fun r => r.op) =
      Op.table.filter (fun op => (rowOf op).matchesPacket p) := by
  rw [opcodeRows_eq_map_rowOf, List.filter_map, List.map_map]
  exact List.map_id _

theorem rowOf_matchesPacket_iff_legal {op : Op} {p : Packet} :
    (rowOf op).matchesPacket p = true ↔ LegalFields op (splitPacket p) :=
  rowOf_matchesPacket_iff.trans maskedBy_eq_bareFields_iff

/-- Each mnemonic has one row. -/
theorem table_filter_eq (op : Op) : Op.table.filter (fun o => o == op) = [op] := by cases op <;> rfl

/-- Two commands never share a legal packet: their opcodes differ. -/
theorem LegalFields.op_unique {op op' : Op} {f : Fields} (h : LegalFields op f) (h' : LegalFields op' f) : op = op' := by
  have hcode := opOfCode_code op
  rw [← h.opcode, h'.opcode, opOfCode_code] at hcode
  exact (Option.some.inj hcode).symm

/-- Settles O3: a row matches exactly the packets with legal fields for its command, and the opcode fixes the command. -/
theorem legalPacketMatchesExactlyItsRow : Obligations.LegalPacketMatchesExactlyItsRow := by
  refine ⟨fun p i h => ?_, fun p e h => ?_, ?_⟩
  · obtain ⟨hlegal, _⟩ := decodeFields_eq_ok_iff.mp h
    have hrow (op : Op) : (rowOf op).matchesPacket p = (op == i.op) := by
      rw [Bool.eq_iff_iff, rowOf_matchesPacket_iff_legal, beq_iff_eq]
      exact ⟨fun h' => h'.op_unique hlegal, fun heq => heq ▸ hlegal⟩
    simp only [ops_of_matching_rows, hrow, table_filter_eq]
  · apply List.map_eq_nil_iff.mp
    rw [ops_of_matching_rows, List.filter_eq_nil_iff]
    intro op _ hmatch
    have hok := (rowOf_matchesPacket_iff_legal.mp hmatch).decodes
    exact absurd (h.symm.trans hok) Decoded.noConfusion
  · rw [opcodeRows_eq_map_rowOf, List.forall_mem_map]
    intro op _
    cases op <;> rfl

/-! ### The unassigned opcodes (30_encoding.md R115) -/

/-- The decoder calls the opcode unassigned when no command has it; it checks the opcode first. -/
theorem decodeFields_eq_unassigned_iff {f : Fields} :
    decodeFields f = .illegal .unassignedOpcode ↔ opOfCode f.opc = none := by
  unfold decodeFields
  split
  next h => simp [h]
  next op h => split_ifs <;> simp [h]

/-- The 24 assigned opcode bytes leave these numbers. -/
theorem opOfCode_eq_none_iff (c : BitVec 8) : opOfCode c = none ↔
    (c.toNat = 0x0D ∨ c.toNat = 0x0E ∨ (0x14 ≤ c.toNat ∧ c.toNat ≤ 0x17) ∨ 0x1E ≤ c.toNat) := by
  rw [opOfCode, List.find?_eq_none]
  simp only [Op.table, List.forall_mem_cons, List.not_mem_nil, false_implies, implies_true, and_true, Op.code, beq_iff_eq,
    ← BitVec.toNat_inj, BitVec.toNat_ofNat]
  constructor
  · omega
  · omega

/-- Settles O4: the decoder refuses for this reason exactly when no command has the opcode byte. -/
theorem unassignedOpcodesAreIllegal : Obligations.UnassignedOpcodesAreIllegal :=
  fun _ => decodeFields_eq_unassigned_iff.trans (opOfCode_eq_none_iff _)

/-! ### The worked encodings (30_encoding.md R121) -/

/-- The packet of a well-formed command decodes to it. -/
theorem decode_of_encode_eq {p : Packet} {i : Instr} (hwf : i.wf = true) (h : encode i = p) : decode p = .ok i :=
  h ▸ decodeOfEncodeGivesTheCommand i hwf

/-- Settles O5: each packet is the encoding of its command. -/
theorem workedEncodingsDecode : Obligations.WorkedEncodingsDecode := by
  refine ⟨?_, ?_, ?_, ?_, ?_, ?_, ?_, ?_, ?_, ?_, ?_, ?_, ?_⟩ <;> exact decode_of_encode_eq rfl rfl

/-! ### SET_STATUS (30_encoding.md R125, 47_control_state.md R287) -/

/-- Byte i of BYTES is byte i of the list it was packed from; past the list's end it is 0x00 (20_memory.md R74). -/
theorem stagedByte_packBytes (bytes : List Byte) {i : Nat} (hi : i < 8) :
    stagedByte (packBytes bytes) i = bytes.getD i 0#8 := by
  induction bytes generalizing i with
  | nil => simp [stagedByte, packBytes]
  | cons b rest ih =>
    simp only [stagedByte, packBytes] at ih ⊢
    apply BitVec.eq_of_getLsbD_eq
    intro k hk
    cases i with
    | zero => simp [hk]; omega
    | succ i =>
      rw [List.getD_cons_succ, ← ih (by omega)]
      have hlow : b.getLsbD (8 * (i + 1) + k) = false := BitVec.getLsbD_of_ge _ _ (by omega)
      have hshift : 8 * (i + 1) + k - 8 = 8 * i + k := by omega
      simp [hk, hlow, hshift]
      omega

/-- With no flag to keep, DIAG keeps its value: a response without a flag is RESP and BUSY alone. -/
theorem respond_okResponse (data : BitVec 32) (s : State) : respond (okResponse data) s = answered data s := by
  simp only [respond, stickyDiag_okResponse]
  rfl

/-- From `s` to `t` the bytes were staged at `offset`: inside the run STAGE holds them, outside it is unchanged, and nothing
else changed but the response. -/
structure Staged (offset : Nat) (bytes : List Byte) (s t : State) : Prop where
  frame : answered 0#32 t = { answered 0#32 s with stage := t.stage }
  form  : Memory.wf t.stage = true
  read  : ∀ a, Memory.read t.stage a =
    if offset ≤ a ∧ a < offset + bytes.length then bytes.getD (a - offset) 0#8 else Memory.read s.stage a

theorem Staged.params {offset : Nat} {bytes : List Byte} {s t : State} (h : Staged offset bytes s t) :
    t.params = s.params := by
  have := congrArg State.params h.frame
  exact this

/-- Staging no byte changes nothing. -/
theorem Staged.nil (offset : Nat) {s : State} (hs : Memory.wf s.stage = true) : Staged offset [] s s where
  frame := rfl
  form := hs
  read a := by rw [if_neg (by simp)]

/-- Staging the first eight bytes and then the rest is staging them all. -/
theorem Staged.chunk {offset : Nat} {bytes : List Byte} {s t u : State} (h : Staged offset (bytes.take 8) s t)
    (h' : Staged (offset + 8) (bytes.drop 8) t u) : Staged offset bytes s u where
  frame := by rw [h'.frame, h.frame]
  form := h'.form
  read a := by
    rw [h'.read, h.read]
    simp only [List.length_take, List.length_drop, List.getD_eq_getElem?_getD, List.getElem?_take, List.getElem?_drop]
    by_cases hlow : a < offset + 8
    · by_cases hin : offset ≤ a ∧ a < offset + bytes.length
      · rw [if_neg (by omega), if_pos (by omega), if_pos hin, if_pos (by omega)]
      · rw [if_neg (by omega), if_neg (by omega), if_neg hin]
    · by_cases hin : offset ≤ a ∧ a < offset + bytes.length
      · rw [if_pos (by omega), if_pos hin, show 8 + (a - (offset + 8)) = a - offset by omega]
      · rw [if_neg (by omega), if_neg (by omega), if_neg hin]

/-- The packet of at most eight bytes that fit STATUS_CAP stages them (47_control_state.md R283). -/
theorem exec_stageInstr {offset : Nat} {bytes : List Byte} {s : State} (hs : Memory.wf s.stage = true)
    (hlen : bytes.length ≤ 8) (hfits : offset + bytes.length ≤ s.params.statusCap) (hcap : s.params.statusCap ≤ 15360) :
    ∃ t, exec (stageInstr offset bytes) s = .next t ∧ Staged offset bytes s t := by
  have hoff : size (BitVec.ofNat 16 offset) = offset := by simp [size]; omega
  have hcount : byteCount (BitVec.ofNat 8 bytes.length) = bytes.length := by simp [byteCount]; omega
  refine ⟨answered 0#32
    { s with stage := Memory.writeRun s.stage offset (stagedByte (packBytes bytes)) bytes.length }, ?_, ?_⟩
  · simp only [stageInstr, exec, execStatusStage, hoff, hcount]
    rw [if_neg (by omega), ← respond_okResponse]
    rfl
  · refine ⟨rfl, Memory.wf_writeRun _ _ _ hs, fun a => ?_⟩
    refine (Memory.read_writeRun _ _ _ a hs).trans ?_
    split_ifs with ha
    · exact stagedByte_packBytes bytes (by omega)
    · rfl

/-- A command that completes hands its state to the next one. -/
theorem executeAll_cons_of_next {i : Instr} {rest : List Instr} {s t : State} (h : exec i s = .next t) :
    executeAll (i :: rest) s = executeAll rest t := by
  rw [executeAll, h]

/-- The STATUS_STAGE packets of a string stage it whole. -/
theorem executeAll_stageChunks {fuel offset : Nat} {bytes : List Byte} {s : State} (hfuel : bytes.length ≤ fuel)
    (hs : Memory.wf s.stage = true) (hfits : bytes ≠ [] → offset + bytes.length ≤ s.params.statusCap)
    (hcap : s.params.statusCap ≤ 15360) (more : List Instr) :
    ∃ t, Staged offset bytes s t ∧ executeAll (stageChunks fuel offset bytes ++ more) s = executeAll more t := by
  induction fuel generalizing offset bytes s with
  | zero =>
    obtain rfl : bytes = [] := List.length_eq_zero_iff.mp (by omega)
    exact ⟨s, .nil offset hs, rfl⟩
  | succ fuel ih =>
    cases bytes with
    | nil => exact ⟨s, .nil offset hs, rfl⟩
    | cons b rest =>
      have hall : offset + (b :: rest).length ≤ s.params.statusCap := hfits (List.cons_ne_nil b rest)
      have htake : ((b :: rest).take 8).length = min 8 (b :: rest).length := List.length_take
      have hdrop : ((b :: rest).drop 8).length = (b :: rest).length - 8 := List.length_drop
      have hpos : (b :: rest).length = rest.length + 1 := rfl
      obtain ⟨t, ht, hstaged⟩ := exec_stageInstr (offset := offset) (bytes := (b :: rest).take 8) hs
        (by omega) (by omega) hcap
      obtain ⟨u, hstaged', hrun⟩ := ih (offset := offset + 8) (bytes := (b :: rest).drop 8) (s := t)
        (by rw [hdrop]; omega) hstaged.form
        (fun hne => by have := List.length_pos_iff.mpr hne; rw [hstaged.params]; omega) (hstaged.params.symm ▸ hcap)
      exact ⟨u, hstaged.chunk hstaged', (executeAll_cons_of_next ht).trans hrun⟩

/-- `s` after a commit of STATUS and STATUS_LEN: both replaced, one notification (47_control_state.md R280, R284). -/
def committed (status : Memory) (len : BitVec 16) (s : State) : State := notify { s with status := status, statusLen := len }

/-- A STATUS_COMMIT of a length that fits commits the staged bytes below it (47_control_state.md R284). -/
theorem exec_statusCommit_of_fits {len : BitVec 16} {s : State} (h : size len ≤ s.params.statusCap) :
    exec (.statusCommit len) s = .next (committed (Memory.takeBelow s.stage (size len)) len (answered 0#32 s)) :=
  (if_neg (by omega)).trans (congrArg Host.Outcome.next (respond_okResponse ..))

/-- Settles O55: the chunks stage the whole string, and the commit takes exactly its bytes out of STAGE. -/
theorem setStatusPseudoInstruction : Obligations.SetStatusPseudoInstruction := by
  intro bytes s hs hfits hcap
  obtain ⟨t, hstaged, hrun⟩ := executeAll_stageChunks (offset := 0) (bytes := bytes) le_rfl hs (by omega) hcap
    [.statusCommit (BitVec.ofNat 16 bytes.length)]
  have hlen : size (BitVec.ofNat 16 bytes.length) = bytes.length := by simp [size]; omega
  have hcommit := exec_statusCommit_of_fits (s := t) (hlen.trans_le (hstaged.params ▸ hfits))
  rw [hlen, hstaged.frame] at hcommit
  refine ⟨_, hrun.trans (executeAll_cons_of_next hcommit), fun i => ?_, hlen, rfl, rfl⟩
  refine (Memory.read_takeBelow bytes.length i t.stage).trans ?_
  rw [hstaged.read]
  by_cases hi : i < bytes.length
  · rw [if_pos hi, if_pos (by omega), Nat.sub_zero]
  · rw [if_neg hi, List.getD_eq_default _ _ (by omega)]

end Sys2Proof.Safety
end

section
/-! PROOFS. The pixel family (40_pixel.md): the addresser is a bijection of the grid (R141, R142), and what SET, OFF, GET_PIXEL,
FILL and CLEAR do (R145 to R149). -/

namespace Sys2Proof.Safety

open Sys2Proof.Machine

/-! ### The addresser -/

/-- On the grid the index is the formula itself, with nothing cut off at 0 (40_pixel.md R141). -/
theorem cast_pixelIndex {x y : Int} (h : InGrid x y) : (pixelIndex x y : Int) = x + (11 - y) * 12 :=
  Int.toNat_of_nonneg (by omega)

/-- A point of the grid comes back from its index (40_pixel.md R142). -/
theorem point_of_pixelIndex {x y : Int} (h : InGrid x y) :
    x = ((pixelIndex x y % 12 : Nat) : Int) ∧ y = 11 - ((pixelIndex x y / 12 : Nat) : Int) := by
  have hindex := cast_pixelIndex h
  omega

/-- Every index below 144 names a point of the grid (40_pixel.md R142). -/
theorem inGrid_of_index {i : Nat} (hi : i < 144) : InGrid ((i % 12 : Nat) : Int) (11 - ((i / 12 : Nat) : Int)) := by
  omega

/-- The point an index names has that index. -/
theorem pixelIndex_of_index {i : Nat} (hi : i < 144) :
    pixelIndex ((i % 12 : Nat) : Int) (11 - ((i / 12 : Nat) : Int)) = i := by
  have hindex := cast_pixelIndex (inGrid_of_index hi)
  omega

/-- Settles O21: from the point to its index and back, and from the index to its point and back. -/
theorem indexIsABijection : Obligations.IndexIsABijection :=
  ⟨fun _ _ h => ⟨cast_pixelIndex h, pixelIndex_lt h, point_of_pixelIndex h⟩,
    fun _ hi => ⟨inGrid_of_index hi, pixelIndex_of_index hi⟩⟩

/-! ### The packets of the formats N, C and P (30_encoding.md R102 to R104) -/

/-- Two neighbouring fields of zeros are one wider field of zeros. -/
theorem append_zeros {w : Nat} (p : BitVec w) (n m : Nat) :
    p ++ 0#n ++ 0#m = (p ++ 0#(n + m)).cast (Nat.add_assoc w n m).symm := by
  rw [BitVec.append_assoc, BitVec.zero_append_zero]

/-- KIND, the reserved bits and FILL of a packet that sets none of them are one field of zeros (30_encoding.md R101). -/
theorem header_zeros (op : Op) : op.code ++ 0#4 ++ 0#2 ++ BitVec.ofBool false = op.code ++ 0#7 :=
  (congrArg (· ++ 0#1) (append_zeros op.code 4 2)).trans (append_zeros op.code 6 1)

/-- The packet of a point and a colour. -/
theorem joinFields_formatP (op : Op) (ign : Bool) (x y : BitVec 16) (color : BitVec 32) :
    joinFields { bareFields op with ign := ign, a := x, b := y, color := color } =
      op.code ++ 0#7 ++ BitVec.ofBool ign ++ 0#16 ++ x ++ y ++ 0#32 ++ color :=
  calc joinFields { bareFields op with ign := ign, a := x, b := y, color := color }
    _ = op.code ++ 0#4 ++ 0#2 ++ BitVec.ofBool false ++ BitVec.ofBool ign ++ 0#16 ++ x ++ y ++ 0#16 ++ 0#16 ++ color := rfl
    _ = op.code ++ 0#7 ++ BitVec.ofBool ign ++ 0#16 ++ x ++ y ++ 0#16 ++ 0#16 ++ color := by rw [header_zeros]
    _ = op.code ++ 0#7 ++ BitVec.ofBool ign ++ 0#16 ++ x ++ y ++ 0#32 ++ color :=
      congrArg (· ++ color) (append_zeros _ 16 16)

/-- The packet of a point alone: the colour is reserved too. -/
theorem joinFields_formatP_bare (op : Op) (ign : Bool) (x y : BitVec 16) :
    joinFields { bareFields op with ign := ign, a := x, b := y } =
      op.code ++ 0#7 ++ BitVec.ofBool ign ++ 0#16 ++ x ++ y ++ 0#64 :=
  (joinFields_formatP op ign x y 0#32).trans (append_zeros _ 32 32)

/-- The packet of a colour: everything between the opcode and the colour is 0. -/
theorem encode_fill (color : BitVec 32) : encode (.fill color) = 0x03#8 ++ 0#88 ++ color :=
  have hzeros : Op.fill.code ++ 0#4 ++ 0#2 ++ 0#1 ++ 0#1 ++ 0#16 ++ 0#16 ++ 0#16 ++ 0#16 ++ 0#16 = 0x03#8 ++ 0#88 := by decide
  congrArg (· ++ color) hzeros

/-! ### SET and OFF -/

theorem exec_set (ign : Bool) (x y : BitVec 16) (color : BitVec 32) (s : State) :
    exec (.set ign x y color) s = .next (drawAndRespond (colour color) ign [(coord x, coord y)] s) := rfl

theorem exec_off (ign : Bool) (x y : BitVec 16) (s : State) :
    exec (.off ign x y) s = .next (drawAndRespond 0#24 ign [(coord x, coord y)] s) := rfl

/-- Drawing the list of one point paints that point. -/
theorem painted_point (c : Colour) (ign : Bool) (x y : BitVec 16) (s : State) :
    Painted s (drawAndRespond c ign [(coord x, coord y)] s) c ign (fun p => p = (x.toInt, y.toInt)) :=
  painted_drawAndRespond c ign _ s _ fun _ => List.mem_singleton

/-- Settles O22: SET draws the list of its one point. -/
theorem setPaintsOnePixel : Obligations.SetPaintsOnePixel := fun ign x y color s =>
  ⟨decode_of_encode_eq rfl (joinFields_formatP .set ign x y color), _, exec_set ign x y color s, painted_point _ ign x y s⟩

/-- Settles O23: OFF draws the list of its one point in black, which is the colour of COLOR = 0. -/
theorem offPaintsOnePixelBlack : Obligations.OffPaintsOnePixelBlack := by
  intro ign x y s
  have hblack : colour 0#32 = 0#24 := rfl
  refine ⟨decode_of_encode_eq rfl (joinFields_formatP_bare .off ign x y),
    ⟨_, exec_off ign x y s, painted_point _ ign x y s⟩, ?_⟩
  rw [exec_off, exec_set, hblack]

/-! ### GET_PIXEL -/

/-- GET_PIXEL answers what PixRead gives, with OOR as its one possible flag, and writes nothing (40_pixel.md R147). -/
theorem exec_getPixel (ign : Bool) (x y : BitVec 16) (s : State) :
    exec (.getPixel ign x y) s = .next (respond
      { data := 0#8 ++ pixRead s.pix x.toInt y.toInt, oor := raisesOor x.toInt y.toInt ign, unsup := false,
        ill := false } s) := by
  rw [← setWidth_eq_zero_append]
  rfl

/-- On the grid a read is the cell of the index (40_pixel.md R144). -/
theorem pixRead_of_inGrid (pix : Pix) {x y : Int} (h : InGrid x y) : pixRead pix x y = cellAt pix (x + (11 - y) * 12).toNat :=
  if_pos h

/-- Out of the grid a read is 0 (40_pixel.md R144). -/
theorem pixRead_of_not_inGrid (pix : Pix) {x y : Int} (h : ¬ InGrid x y) : pixRead pix x y = 0#24 := if_neg h

theorem raisesOor_of_inGrid {x y : Int} (ign : Bool) (h : InGrid x y) : raisesOor x y ign = false := by
  simp [raisesOor, h]

theorem raisesOor_of_not_inGrid {x y : Int} (ign : Bool) (h : ¬ InGrid x y) : raisesOor x y ign = !ign := by
  simp [raisesOor, h]

/-- Settles O24: on the grid, out of it with IGN, out of it without. -/
theorem getPixelAnswersTheCell : Obligations.GetPixelAnswersTheCell := by
  intro ign x y s
  refine ⟨decode_of_encode_eq rfl (joinFields_formatP_bare .getPixel ign x y), fun h => ?_, fun h hign => ?_,
    fun h hign => ?_⟩
  · rw [exec_getPixel, pixRead_of_inGrid _ h, raisesOor_of_inGrid _ h, ← respond_okResponse]
    rfl
  · rw [exec_getPixel, pixRead_of_not_inGrid _ h, raisesOor_of_not_inGrid _ h, hign, ← respond_okResponse]
    rfl
  · rw [exec_getPixel, pixRead_of_not_inGrid _ h, raisesOor_of_not_inGrid _ h, hign]
    rfl

/-! ### FILL and CLEAR -/

/-- FILL makes the buffer solid and changes nothing else but the response (40_pixel.md R148). -/
theorem exec_fill (color : BitVec 32) (s : State) :
    exec (.fill color) s = .next { answered 0#32 s with pix := solid (colour color) } :=
  congrArg Host.Outcome.next (respond_okResponse ..)

/-- CLEAR is FILL with 0 (40_pixel.md R149). -/
theorem exec_clear_eq_fill (s : State) : exec .clear s = exec (.fill 0#32) s := rfl

/-- Settles O25: FILL leaves the solid buffer of its colour; CLEAR is FILL with 0. -/
theorem fillAndClearWriteEveryCell : Obligations.FillAndClearWriteEveryCell := by
  have hfill (color : BitVec 32) (s : State) : ∃ t, exec (.fill color) s = .next t ∧
      (∀ i, i < 144 → cellAt t.pix i = colour color) ∧ t = { answered 0#32 s with pix := t.pix } :=
    ⟨_, exec_fill color s, cellAt_solid (colour color), rfl⟩
  exact ⟨fun color => decode_of_encode_eq rfl (encode_fill color), decode_of_encode_eq rfl rfl, hfill,
    fun s => hfill 0#32 s, exec_clear_eq_fill⟩

end Sys2Proof.Safety
end

section
/-! PROOFS. The line and rectangle family (41_line_rect.md): the points of LinePixels (R170, R171), LINE (R172), and RECT as a
set of cells and as a sequence of lines (R173 to R176). -/

namespace Sys2Proof.Safety

open Sys2Proof.Machine

/-! ### One turn of the line's loop -/

section Loop

variable {dx dy sx sy x2 y2 x y err : Int} {fuel : Nat}

/-- At its end point the line stops. -/
theorem lineLoop_at_end : lineLoop dx dy sx sy x y (fuel + 1) x y err = [(x, y)] := by
  simp [lineLoop]

/-- A turn that moves along x alone. -/
theorem lineLoop_straight (hend : ¬ (x = x2 ∧ y = y2)) (hx : dy ≤ 2 * err) (hy : dx < 2 * err) :
    lineLoop dx dy sx sy x2 y2 (fuel + 1) x y err =
      (x, y) :: lineLoop dx dy sx sy x2 y2 fuel (x + sx) y (err + dy) := by
  simp [lineLoop, hend, hx, Int.not_le.mpr hy]

/-- A turn that moves along both axes. -/
theorem lineLoop_diagonal (hend : ¬ (x = x2 ∧ y = y2)) (hx : dy ≤ 2 * err) (hy : 2 * err ≤ dx) :
    lineLoop dx dy sx sy x2 y2 (fuel + 1) x y err =
      (x, y) :: lineLoop dx dy sx sy x2 y2 fuel (x + sx) (y + sy) (err + dy + dx) := by
  simp [lineLoop, hend, hx, hy]

end Loop

/-- The loop treats its two axes alike: exchanging them negates the error term. -/
theorem lineLoop_swap (dx dy sx sy x2 y2 : Int) (fuel : Nat) (x y err : Int) :
    (lineLoop dx dy sx sy x2 y2 fuel x y err).map Prod.swap =
      lineLoop (-dy) (-dx) sy sx y2 x2 fuel y x (-err) := by
  induction fuel generalizing x y err with
  | zero => rfl
  | succ fuel ih =>
    have hx : (2 * -err ≤ -dy) ↔ dy ≤ 2 * err := by omega
    have hy : (-dx ≤ 2 * -err) ↔ 2 * err ≤ dx := by omega
    have herr (u v : Int) : -(err + u + v) = -err + -v + -u := by ring
    simp only [lineLoop, List.map_cons, apply_ite (List.map Prod.swap), List.map_nil, ih, ge_iff_le, hx, hy, herr,
      and_comm (a := y = y2), apply_ite Neg.neg, neg_zero, Prod.swap_prod_mk]

theorem linePixels_swap (x1 y1 x2 y2 : Int) : (linePixels x1 y1 x2 y2).map Prod.swap = linePixels y1 x1 y2 x2 := by
  simp only [linePixels, lineLoop_swap, neg_neg, neg_add_rev, Nat.add_comm (x2 - x1).natAbs]

/-! ### Lines that are wider than high -/

/-- `Walk sx sy p n m l`: `l` goes from `p` in `n` turns, each a step `sx` along x, `m` of them with a step `sy` along y too. -/
inductive Walk (sx sy : Int) : Point → Nat → Nat → List Point → Prop
  | stop (p : Point) : Walk sx sy p 0 0 [p]
  | straight {x y : Int} {n m : Nat} {l : List Point} (h : Walk sx sy (x + sx, y) n m l) :
      Walk sx sy (x, y) (n + 1) m ((x, y) :: l)
  | diagonal {x y : Int} {n m : Nat} {l : List Point} (h : Walk sx sy (x + sx, y + sy) n m l) :
      Walk sx sy (x, y) (n + 1) (m + 1) ((x, y) :: l)

/-- A step along x leaves its column for good. -/
theorem add_mul_succ_ne {sx : Int} (hsx : sx ≠ 0) (x : Int) (k : Nat) : x + sx * ((k + 1 : Nat) : Int) ≠ x := by
  have hne : sx * ((k + 1 : Nat) : Int) ≠ 0 := mul_ne_zero hsx (by omega)
  omega

/-- A line `a` wide and `b ≤ a` high, with `n` columns and `m` rows to go: the error term never falls below `-b / 2`, so every
turn steps along x, and the rows are used up with the columns. -/
theorem lineLoop_walk {a b : Nat} {sx sy x2 y2 : Int} (hab : b ≤ a) (hsx : sx ≠ 0) {n m fuel : Nat} {x y err : Int}
    (hfuel : n < fuel) (hn : n ≤ a) (hm : m ≤ b) (hx2 : x2 = x + sx * n) (hy2 : y2 = y + sy * m)
    (herr : err = a - b + b * n - a * m) (hlow : -(b : Int) ≤ 2 * err) :
    Walk sx sy (x, y) n m (lineLoop a (-b) sx sy x2 y2 fuel x y err) := by
  induction n generalizing m fuel x y err with
  | zero =>
    obtain ⟨fuel, rfl⟩ := Nat.exists_eq_add_one_of_ne_zero (Nat.ne_of_gt hfuel)
    obtain rfl : m = 0 := by
      by_contra hne
      have : (a : Int) ≤ a * m := by exact_mod_cast Nat.le_mul_of_pos_right a (Nat.pos_of_ne_zero hne)
      push_cast at herr
      omega
    obtain rfl : x2 = x := by simpa using hx2
    obtain rfl : y2 = y := by simpa using hy2
    rw [lineLoop_at_end]
    exact .stop _
  | succ n ih =>
    obtain ⟨fuel, rfl⟩ := Nat.exists_eq_add_one_of_ne_zero (Nat.ne_of_gt (Nat.zero_lt_of_lt hfuel))
    have hend : ¬ (x = x2 ∧ y = y2) := fun h => add_mul_succ_ne hsx x n (hx2.symm.trans h.1.symm)
    push_cast at hx2 herr
    have hx2' : x2 = x + sx + sx * n := by rw [hx2]; ring
    by_cases hy : 2 * err ≤ a
    · obtain ⟨m, rfl⟩ : ∃ k, m = k + 1 := by
        refine Nat.exists_eq_add_one_of_ne_zero ?_
        rintro rfl
        have : 0 ≤ (b : Int) * n := by positivity
        push_cast at herr
        rw [mul_add] at herr
        omega
      rw [lineLoop_diagonal hend hlow hy]
      push_cast at hy2 herr
      exact .diagonal (ih (by omega) (by omega) (by omega) hx2' (by rw [hy2]; ring) (by rw [herr]; ring) (by omega))
    · rw [lineLoop_straight hend hlow (by omega)]
      exact .straight (ih (by omega) (by omega) hm hx2' hy2 (by rw [herr]; ring) (by omega))

/-- The direction of LinePixels from `a` towards `b` on one axis (41_line_rect.md R170). -/
def direction (a b : Int) : Int := if a < b then 1 else -1

theorem natAbs_direction (a b : Int) : (direction a b).natAbs = 1 := by
  unfold direction; split_ifs <;> rfl

theorem add_direction_mul (a b : Int) : a + direction a b * (b - a).natAbs = b := by
  unfold direction; split_ifs <;> omega

/-- A line that is at least as wide as it is high steps along x in every turn. -/
theorem linePixels_walk {x1 y1 x2 y2 : Int} (h : (y2 - y1).natAbs ≤ (x2 - x1).natAbs) :
    Walk (direction x1 x2) (direction y1 y2) (x1, y1) (x2 - x1).natAbs (y2 - y1).natAbs (linePixels x1 y1 x2 y2) := by
  have hsx : direction x1 x2 ≠ 0 := Int.natAbs_ne_zero.mp (by simp [natAbs_direction])
  refine lineLoop_walk h hsx (by omega) le_rfl le_rfl (add_direction_mul x1 x2).symm (add_direction_mul y1 y2).symm ?_ ?_
  · ring
  · omega

/-! ### The properties of a line (41_line_rect.md R171) -/

/-- `l` joins `p` to `q` in `n` turns: `n + 1` distinct points, each at most 1 from the one before in each coordinate. -/
structure Joins (p q : Point) (n : Nat) (l : List Point) : Prop where
  head : l.head? = some p
  last : l.getLast? = some q
  length : l.length = n + 1
  nodup : l.Nodup
  adjacent : ∀ (k : Nat) (u v : Point), l[k]? = some u → l[k + 1]? = some v →
    (v.1 - u.1).natAbs ≤ 1 ∧ (v.2 - u.2).natAbs ≤ 1

theorem Joins.singleton (p : Point) : Joins p p 0 [p] where
  head := rfl
  last := rfl
  length := rfl
  nodup := List.nodup_singleton p
  adjacent k u v _ hv := by simp at hv

/-- A new first point next to the old one makes the list one longer. -/
theorem Joins.cons {p q r : Point} {n : Nat} {l : List Point} (h : Joins p q n l) (hr : r ∉ l)
    (hx : (p.1 - r.1).natAbs ≤ 1) (hy : (p.2 - r.2).natAbs ≤ 1) : Joins r q (n + 1) (r :: l) where
  head := rfl
  last := by simp [List.getLast?_cons, h.last]
  length := by simp [h.length]
  nodup := List.nodup_cons.mpr ⟨hr, h.nodup⟩
  adjacent k u v hu hv := by
    cases k with
    | zero =>
      obtain rfl : r = u := by simpa using hu
      obtain rfl : p = v := by simpa [← List.head?_eq_getElem?, h.head] using hv
      exact ⟨hx, hy⟩
    | succ k => exact h.adjacent k u v hu hv

/-- The properties are about the two axes alike. -/
theorem Joins.swap {p q : Point} {n : Nat} {l : List Point} (h : Joins p q n l) :
    Joins p.swap q.swap n (l.map Prod.swap) where
  head := by simp [h.head]
  last := by simp [h.last]
  length := by simp [h.length]
  nodup := h.nodup.map Prod.swap_injective
  adjacent k u v hu hv := by
    simp only [List.getElem?_map, Option.map_eq_some_iff] at hu hv
    obtain ⟨u, hu, rfl⟩ := hu
    obtain ⟨v, hv, rfl⟩ := hv
    exact (h.adjacent k u v hu hv).symm

/-- The column of a point of a walk. -/
theorem Walk.column_of_mem {sx sy : Int} {p q : Point} {n m : Nat} {l : List Point} (h : Walk sx sy p n m l) (hq : q ∈ l) :
    ∃ k : Nat, q.1 = p.1 + sx * k := by
  induction h with
  | stop p => exact ⟨0, by simp [List.mem_singleton.mp hq]⟩
  | straight _ ih | diagonal _ ih =>
    obtain rfl | hq := List.mem_cons.mp hq
    · exact ⟨0, by simp⟩
    · obtain ⟨k, hk⟩ := ih hq
      exact ⟨k + 1, by rw [hk]; push_cast; ring⟩

/-- A walk never comes back to the column it has just left. -/
theorem Walk.not_mem_of_next {sx sy x y y' : Int} {n m : Nat} {l : List Point} (hsx : sx ≠ 0)
    (h : Walk sx sy (x + sx, y') n m l) : (x, y) ∉ l := by
  intro hmem
  obtain ⟨k, hk⟩ : ∃ k : Nat, x = x + sx + sx * k := h.column_of_mem hmem
  exact add_mul_succ_ne hsx x k (by push_cast; linear_combination -hk)

theorem Walk.joins {sx sy : Int} {p : Point} {n m : Nat} {l : List Point} (hsx : sx.natAbs = 1) (hsy : sy.natAbs = 1)
    (h : Walk sx sy p n m l) : Joins p (p.1 + sx * n, p.2 + sy * m) n l := by
  have hsx0 : sx ≠ 0 := Int.natAbs_ne_zero.mp (by omega)
  induction h with
  | stop p => simpa using Joins.singleton p
  | @straight x y n m l h ih =>
    have hq : (x + sx + sx * n, y + sy * m) = (x + sx * ((n + 1 : Nat) : Int), y + sy * m) := by
      congr 1; push_cast; ring
    exact hq ▸ ih.cons (h.not_mem_of_next hsx0) (by simp [hsx]) (by simp)
  | @diagonal x y n m l h ih =>
    have hq : (x + sx + sx * n, y + sy + sy * m) = (x + sx * ((n + 1 : Nat) : Int), y + sy * ((m + 1 : Nat) : Int)) := by
      congr 1 <;> push_cast <;> ring
    exact hq ▸ ih.cons (h.not_mem_of_next hsx0) (by simp [hsx]) (by simp [hsy])

/-- A line at least as wide as it is high joins its end points. -/
theorem linePixels_joins_of_wide {x1 y1 x2 y2 : Int} (h : (y2 - y1).natAbs ≤ (x2 - x1).natAbs) :
    Joins (x1, y1) (x2, y2) (x2 - x1).natAbs (linePixels x1 y1 x2 y2) := by
  have hjoins := (linePixels_walk h).joins (natAbs_direction x1 x2) (natAbs_direction y1 y2)
  simpa only [add_direction_mul] using hjoins

/-- Every line joins its end points: a line higher than wide is a wide one with the axes exchanged. -/
theorem linePixels_joins (x1 y1 x2 y2 : Int) :
    Joins (x1, y1) (x2, y2) (max (x2 - x1).natAbs (y2 - y1).natAbs) (linePixels x1 y1 x2 y2) := by
  obtain h | h := Nat.le_total (y2 - y1).natAbs (x2 - x1).natAbs
  · rw [max_eq_left h]
    exact linePixels_joins_of_wide h
  · rw [max_eq_right h, ← linePixels_swap]
    exact (linePixels_joins_of_wide h).swap

/-- Settles O26: every line joins its end points, and the two short lines are evaluated. -/
theorem linePixelsReachTheirEnd : Obligations.LinePixelsReachTheirEnd := by
  refine ⟨fun x1 y1 x2 y2 => ?_, by decide, by decide⟩
  have hline := linePixels_joins x1 y1 x2 y2
  exact ⟨hline.head, hline.last, hline.length, hline.nodup, hline.adjacent⟩

/-! ### The packets of format S (30_encoding.md R105) -/

/-- The packet of the two flags, four operands and a colour. -/
theorem joinFields_formatS (op : Op) (fill ign : Bool) (a b c d : BitVec 16) (color : BitVec 32) :
    joinFields { bareFields op with fill := fill, ign := ign, a := a, b := b, c := c, d := d, color := color } =
      op.code ++ 0#6 ++ BitVec.ofBool fill ++ BitVec.ofBool ign ++ 0#16 ++ a ++ b ++ c ++ d ++ color :=
  congrArg (· ++ BitVec.ofBool fill ++ BitVec.ofBool ign ++ 0#16 ++ a ++ b ++ c ++ d ++ color) (append_zeros op.code 4 2)

/-- The packet of a command that may not set FILL. -/
theorem joinFields_formatS_of_no_fill (op : Op) (ign : Bool) (a b c d : BitVec 16) (color : BitVec 32) :
    joinFields { bareFields op with ign := ign, a := a, b := b, c := c, d := d, color := color } =
      op.code ++ 0#7 ++ BitVec.ofBool ign ++ 0#16 ++ a ++ b ++ c ++ d ++ color :=
  congrArg (· ++ BitVec.ofBool ign ++ 0#16 ++ a ++ b ++ c ++ d ++ color) (header_zeros op)

/-! ### LINE -/

theorem exec_line (ign : Bool) (x1 y1 x2 y2 : BitVec 16) (color : BitVec 32) (s : State) :
    exec (.line ign x1 y1 x2 y2 color) s =
      .next (drawAndRespond (colour color) ign (linePixels (coord x1) (coord y1) (coord x2) (coord y2)) s) := rfl

/-- The line from a point to itself is that point. -/
theorem linePixels_self (x y : Int) : linePixels x y x y = [(x, y)] := lineLoop_at_end

/-- Settles O27: LINE draws the list of its points, which for equal end points is the list of that one. -/
theorem lineDrawsItsPixels : Obligations.LineDrawsItsPixels := by
  intro ign x1 y1 x2 y2 color s
  refine ⟨decode_of_encode_eq rfl (joinFields_formatS_of_no_fill .line ign x1 y1 x2 y2 color), _,
    exec_line ign x1 y1 x2 y2 color s, painted_drawAndRespond _ _ _ _ _ fun _ => Iff.rfl, ?_⟩
  rintro rfl rfl
  rw [linePixels_self]
  exact painted_point _ ign x1 y1 s

/-! ### The box of RECT and its border -/

/-- The points RECT paints: those of the border, or those of the box when filled (41_line_rect.md R175). -/
def RectPoint (x y : Int) (w h : Nat) (filled : Bool) (p : Point) : Prop :=
  if filled = true then InBox x y w h p else OnBorder x y w h p

theorem rectPoint_iff {x y : Int} {w h : Nat} {filled : Bool} {p : Point} :
    RectPoint x y w h filled p ↔ InBox x y w h p ∧
      (filled = true ∨ p.1 = x ∨ p.1 = x + w - 1 ∨ p.2 = y ∨ p.2 = y + h - 1) := by
  cases filled <;> simp [RectPoint, OnBorder]

theorem inBox_eq_true_iff {x y : Int} {w h : Nat} {p : Point} : inBox x y w h p = true ↔ InBox x y w h p := by
  simp [inBox, InBox, and_assoc]

theorem onEdge_eq_true_iff {x y : Int} {w h : Nat} {p : Point} :
    onEdge x y w h p = true ↔ p.1 = x ∨ p.1 = x + w - 1 ∨ p.2 = y ∨ p.2 = y + h - 1 := by
  simp [onEdge, or_assoc]

/-- The cells RECT writes are the points it paints that lie on the grid. -/
theorem mem_rectCells_iff {x y : Int} {w h : Nat} {filled : Bool} {p : Point} :
    p ∈ rectCells x y w h filled ↔ InGrid p.1 p.2 ∧ RectPoint x y w h filled p := by
  rw [mem_rectCells, inBox_eq_true_iff, onEdge_eq_true_iff, rectPoint_iff]

/-- A box that leaves the grid does so at one of two opposite corners, which lie on the border; so it makes no difference for
OOR whether all of the box is asked or only a part that holds the border (41_line_rect.md R176). -/
theorem boxLeavesGrid_iff_exists {x y : Int} {w h : Nat} {pts : Point → Prop} (hw : w ≠ 0) (hh : h ≠ 0)
    (hborder : ∀ p, OnBorder x y w h p → pts p) (hbox : ∀ p, pts p → InBox x y w h p) :
    boxLeavesGrid x y w h = true ↔ ∃ p, pts p ∧ ¬ InGrid p.1 p.2 := by
  have hleaves : boxLeavesGrid x y w h = true ↔ x < 0 ∨ 11 < x + w - 1 ∨ y < 0 ∨ 11 < y + h - 1 := by
    simp [boxLeavesGrid, or_assoc]
  rw [hleaves]
  have hx : x ≤ x + w - 1 := by omega
  have hy : y ≤ y + h - 1 := by omega
  constructor
  · intro hout
    by_cases hlow : x < 0 ∨ y < 0
    · refine ⟨(x, y), hborder _ ⟨⟨le_rfl, hx, le_rfl, hy⟩, .inl rfl⟩, ?_⟩
      dsimp only
      omega
    · refine ⟨(x + w - 1, y + h - 1), hborder _ ⟨⟨hx, le_rfl, hy, le_rfl⟩, .inr (.inl rfl)⟩, ?_⟩
      dsimp only
      omega
  · rintro ⟨p, hp, hout⟩
    obtain ⟨hx, hx', hy, hy'⟩ := hbox p hp
    omega

/-- RECT paints its points, and raises OOR by its box. -/
theorem painted_drawRect {x y : Int} {w h : Nat} (filled ign : Bool) (hw : w ≠ 0) (hh : h ≠ 0) (c : Colour) (s : State) :
    Painted s (drawRect filled ign x y w h c s) c ign (RectPoint x y w h filled) where
  lit px py hg hp := by simp [pixRead_paint _ _ _ _ hg, mem_rectCells_iff.mpr ⟨hg, hp⟩]
  unlit px py hg hp := by simp [pixRead_paint _ _ _ _ hg, mem_rectCells_iff, hp]
  oor := by
    have hborder (p : Point) (hp : OnBorder x y w h p) : RectPoint x y w h filled p :=
      rectPoint_iff.mpr ⟨hp.1, .inr hp.2⟩
    rw [← boxLeavesGrid_iff_exists hw hh hborder fun p hp => (rectPoint_iff.mp hp).1]
    simp [drawResponse, and_comm]
  rest := rfl

/-! ### RECT -/

/-- RECT of a box with cells draws it (41_line_rect.md R175). -/
theorem exec_rect (filled ign : Bool) (x y : BitVec 16) {w h : BitVec 16} (color : BitVec 32) (s : State)
    (hw : w.toNat ≠ 0) (hh : h.toNat ≠ 0) :
    exec (.rect filled ign x y w h color) s =
      .next (drawRect filled ign (coord x) (coord y) (size w) (size h) (colour color) s) :=
  if_neg (not_or.mpr ⟨hw, hh⟩)

/-- RECT of a box without cells is turned away (41_line_rect.md R175). -/
theorem exec_rect_of_empty (filled ign : Bool) (x y : BitVec 16) {w h : BitVec 16} (color : BitVec 32) (s : State)
    (hempty : w.toNat = 0 ∨ h.toNat = 0) : exec (.rect filled ign x y w h color) s = .next (rejectUnsupported s) :=
  if_pos hempty

/-- An unsupported input is turned away (60_exceptions.md R302). -/
theorem rejectUnsupported_eq_turnedAway (s : State) : rejectUnsupported s = turnedAway s := by
  simp only [rejectUnsupported_eq, respond, stickyDiag_unsupResponse]
  rfl

/-- Settles O28: RECT paints its points; its OOR flag is that of the box, which the border decides. -/
theorem rectDrawsItsBox : Obligations.RectDrawsItsBox := by
  intro filled ign x y w h color s
  refine ⟨decode_of_encode_eq rfl (joinFields_formatS .rect filled ign x y w h color), fun hw hh => ?_, fun hempty => ?_⟩
  · refine ⟨_, exec_rect filled ign x y color s hw hh, painted_drawRect filled ign hw hh _ s, ?_⟩
    rw [← boxLeavesGrid_iff_exists hw hh (fun _ hp => hp.1) fun _ hp => hp]
    simp [drawResponse, and_comm, coord, size]
  · rw [exec_rect_of_empty filled ign x y color s hempty, rejectUnsupported_eq_turnedAway]

/-! ### RECT as a sequence of lines (41_line_rect.md R174) -/

/-- A walk without a step along y covers its row. -/
theorem Walk.mem_level {sx sy x y : Int} {n : Nat} {l : List Point} {p : Point} (h : Walk sx sy (x, y) n 0 l) :
    p ∈ l ↔ ∃ k : Nat, k ≤ n ∧ p = (x + sx * k, y) := by
  induction n generalizing x l with
  | zero =>
    cases h
    simp
  | succ n ih =>
    cases h with | straight h =>
    rw [List.mem_cons, ih h]
    constructor
    · rintro (rfl | ⟨k, hk, rfl⟩)
      · exact ⟨0, by simp⟩
      · exact ⟨k + 1, by omega, by congr 1; push_cast; ring⟩
    · rintro ⟨_ | k, hk, rfl⟩
      · exact .inl (by simp)
      · exact .inr ⟨k, by omega, by congr 1; push_cast; ring⟩

/-- A line along a row is the run of cells between its end points. -/
theorem mem_linePixels_row {x x2 y : Int} {p : Point} (hx : x ≤ x2) :
    p ∈ linePixels x y x2 y ↔ x ≤ p.1 ∧ p.1 ≤ x2 ∧ p.2 = y := by
  have hwalk := linePixels_walk (x1 := x) (y1 := y) (x2 := x2) (y2 := y) (by simp)
  rw [Int.sub_self, Int.natAbs_zero] at hwalk
  rw [hwalk.mem_level]
  have hend := add_direction_mul x x2
  obtain ⟨px, py⟩ := p
  simp only [Prod.mk.injEq]
  constructor
  · rintro ⟨k, hk, rfl, rfl⟩
    unfold direction
    split_ifs <;> omega
  · rintro ⟨hlo, hhi, rfl⟩
    refine ⟨(px - x).toNat, by omega, ?_, rfl⟩
    unfold direction
    split_ifs <;> omega

/-- A line along a column is the run of cells between its end points. -/
theorem mem_linePixels_column {x y y2 : Int} {p : Point} (hy : y ≤ y2) :
    p ∈ linePixels x y x y2 ↔ p.1 = x ∧ y ≤ p.2 ∧ p.2 ≤ y2 := by
  rw [← linePixels_swap, List.mem_map_of_involutive Prod.swap_swap, mem_linePixels_row hy]
  simp only [Prod.fst_swap, Prod.snd_swap]
  tauto

/-- The four edges are the border, and the fill runs add the rest of the box. -/
theorem mem_rectPixels {x y : Int} {w h : Nat} {filled : Bool} {p : Point} (hw : w ≠ 0) (hh : h ≠ 0) :
    p ∈ rectPixels x y w h filled ↔ RectPoint x y w h filled p := by
  have hx : x ≤ x + w - 1 := by omega
  have hy : y ≤ y + h - 1 := by omega
  rw [rectPoint_iff]
  cases filled with
  | false =>
    simp only [rectPixels, InBox, List.mem_append, mem_linePixels_row hx, mem_linePixels_column hy, Bool.false_eq_true,
      if_false, List.not_mem_nil, or_false, false_or]
    omega
  | true =>
    simp only [rectPixels, InBox, List.mem_append, mem_linePixels_row hx, mem_linePixels_column hy, if_true,
      List.mem_flatMap, List.mem_range, true_or, and_true]
    constructor
    · rintro (hedge | ⟨i, hi, hcolumn⟩ | ⟨j, hj, hrow⟩) <;> omega
    · intro hbox
      by_cases hlast : p.1 = x + w - 1
      · exact .inl (.inr (by omega))
      · exact .inr (.inl ⟨(p.1 - x).toNat, by omega, by omega⟩)

/-- What is painted fixes the state after it. -/
theorem Painted.unique {s t u : State} {c : Colour} {ign : Bool} {pts : Point → Prop} (ht : Painted s t c ign pts)
    (hu : Painted s u c ign pts) : t = u := by
  have hpix : t.pix = u.pix := by
    refine pix_ext fun x y hg => ?_
    by_cases hp : pts (x, y)
    · rw [ht.lit x y hg hp, hu.lit x y hg hp]
    · rw [ht.unlit x y hg hp, hu.unlit x y hg hp]
  have hoor : t.resp.oor = u.resp.oor := Bool.eq_iff_iff.mpr (ht.oor.trans hu.oor.symm)
  rw [ht.rest, hu.rest, hpix, hoor]

/-- Settles O29: the set of cells and the sequence of lines paint the same points. -/
theorem rectIsItsWriteSequence : Obligations.RectIsItsWriteSequence := by
  intro filled ign x y w h color s hw hh
  rw [exec_rect filled ign x y color s hw hh]
  have hlines := painted_drawAndRespond (colour color) ign (rectPixels x.toInt y.toInt w.toNat h.toNat filled) s _
    fun _ => mem_rectPixels hw hh
  exact congrArg Host.Outcome.next ((painted_drawRect filled ign hw hh (colour color) s).unique hlines)

end Sys2Proof.Safety
end

section
/-! PROOFS. The circle family (42_circle.md): the points of the sampler (R190, R192), and CIRCLE with its corner cases (R193). -/

namespace Sys2Proof.Safety

open Sys2Proof.Machine

/-! ### The sampler -/

/-- The sampler's points are its samples, one for each k below `fdiv(360, step)` (42_circle.md R190). -/
theorem mem_circlePixels_iff {u : Config.AngleUnit} {x y : Int} {rn rd step : Nat} {p : Point} :
    p ∈ circlePixels u x y rn rd step ↔ ∃ k : Nat, k < 360 / step ∧ p = circlePoint u x y rn rd (k * step) := by
  simp [circlePixels, eq_comm]

/-- A sample on a whole radius, with RD = 1 left out (42_circle.md R192, R193). -/
theorem circlePoint_whole_radius (u : Config.AngleUnit) (x y : Int) (r n : Nat) :
    circlePoint u x y r 1 n =
      (x + Int.fdiv (cosRom u n * r) (2 ^ 30), y + Int.fdiv (sinRom u n * r) (2 ^ 30)) := by
  simp only [circlePoint, Config.trigFracBits, Nat.cast_one, mul_one]

theorem cosRom_zero (u : Config.AngleUnit) : cosRom u 0 = 2 ^ 30 := by cases u <;> rfl

theorem sinRom_zero (u : Config.AngleUnit) : sinRom u 0 = 0 := by cases u <;> rfl

/-- Sample 0 is the point at distance r along x, exactly (42_circle.md R196). -/
theorem circlePoint_sample_zero (u : Config.AngleUnit) (x y : Int) (r : Nat) :
    circlePoint u x y r 1 0 = (x + r, y) := by
  rw [circlePoint_whole_radius, cosRom_zero, sinRom_zero, Int.mul_fdiv_cancel_left _ (by decide), zero_mul,
    Int.zero_fdiv, add_zero]

/-- On radius 0 every sample is the centre (42_circle.md R193). -/
theorem circlePoint_zero_radius (u : Config.AngleUnit) (x y : Int) (rd n : Nat) :
    circlePoint u x y 0 rd n = (x, y) := by
  simp [circlePoint]

/-- A circle of radius 0 with at least one sample has the centre as its only point. -/
theorem mem_circlePixels_zero_radius {u : Config.AngleUnit} {x y : Int} {rd step : Nat} {p : Point} (hpos : 0 < step)
    (hle : step ≤ 360) : p ∈ circlePixels u x y 0 rd step ↔ p = (x, y) := by
  have hsample : 0 < 360 / step := Nat.div_pos hle hpos
  simp only [mem_circlePixels_iff, circlePoint_zero_radius]
  exact ⟨fun ⟨_, _, hp⟩ => hp, fun hp => ⟨0, hsample, hp⟩⟩

/-- With a step from 181 to 360 there is sample 0 alone (42_circle.md R193). -/
theorem circlePixels_one_sample (u : Config.AngleUnit) (x y : Int) (r : Nat) {step : Nat} (hlo : 181 ≤ step)
    (hhi : step ≤ 360) : circlePixels u x y r 1 step = [(x + r, y)] := by
  have hcount : 360 / step = 1 := Nat.div_eq_of_lt_le (by omega) (by omega)
  simp [circlePixels, hcount, circlePoint_sample_zero]

/-- With a step above 360 there is no sample (42_circle.md R193). -/
theorem circlePixels_no_sample (u : Config.AngleUnit) (x y : Int) (rn rd : Nat) {step : Nat} (h : 361 ≤ step) :
    circlePixels u x y rn rd step = [] := by
  have hcount : 360 / step = 0 := Nat.div_eq_of_lt h
  simp [circlePixels, hcount]

/-! ### CIRCLE -/

/-- CIRCLE with a step draws the points of the sampler, out-of-range suppressed (42_circle.md R193). -/
theorem exec_circle (filled ign : Bool) (x y r : BitVec 16) {step : BitVec 16} (color : BitVec 32) (s : State)
    (hstep : step.toNat ≠ 0) :
    exec (.circle filled ign x y r step color) s = .next (drawAndRespond (colour color) true
      (circlePixels s.params.angleUnit x.toInt y.toInt r.toNat 1 step.toNat) s) :=
  if_neg hstep

/-- CIRCLE with step 0 is turned away (42_circle.md R193). -/
theorem exec_circle_of_zero_step (filled ign : Bool) (x y r : BitVec 16) {step : BitVec 16} (color : BitVec 32)
    (s : State) (hstep : step.toNat = 0) :
    exec (.circle filled ign x y r step color) s = .next (turnedAway s) := by
  rw [← rejectUnsupported_eq_turnedAway]
  exact if_pos hstep

/-- FILL and IGN have no effect on CIRCLE (42_circle.md R193). -/
theorem exec_circle_flags (filled ign : Bool) (x y r step : BitVec 16) (color : BitVec 32) (s : State) :
    exec (.circle filled ign x y r step color) s = exec (.circle false false x y r step color) s := rfl

/-- CIRCLE with a step paints the points that its sampler lists. -/
theorem exec_circle_painted (filled ign : Bool) (x y r : BitVec 16) {step : BitVec 16} (color : BitVec 32) (s : State)
    {pts : Point → Prop} (hstep : step.toNat ≠ 0)
    (hpts : ∀ p, p ∈ circlePixels s.params.angleUnit x.toInt y.toInt r.toNat 1 step.toNat ↔ pts p) :
    ∃ t, exec (.circle filled ign x y r step color) s = .next t ∧ Painted s t (colour color) true pts :=
  ⟨_, exec_circle filled ign x y r color s hstep, painted_drawAndRespond _ _ _ _ _ hpts⟩

/-- Drawing no point answers DATA = 0 with no flag and does nothing else. -/
theorem drawAndRespond_nil (c : Colour) (ign : Bool) (s : State) : drawAndRespond c ign [] s = answered 0#32 s :=
  respond_okResponse 0#32 s

/-- Settles O31: CIRCLE draws the list of its samples, each on a whole radius. -/
theorem circleDrawsItsSamples : Obligations.CircleDrawsItsSamples := by
  intro filled ign x y r step color s
  refine ⟨decode_of_encode_eq rfl (joinFields_formatS .circle filled ign x y r step color), fun hstep => ?_,
    exec_circle_of_zero_step filled ign x y r color s, exec_circle_flags filled ign x y r step color s⟩
  refine exec_circle_painted filled ign x y r color s hstep fun p => ?_
  simp only [mem_circlePixels_iff, circlePoint_whole_radius]

/-- Settles O32: by the sampler's points on radius 0, and by its one sample or none for a wide step. -/
theorem circleCornerCases : Obligations.CircleCornerCases := by
  intro filled ign x y r step color s
  refine ⟨fun hr hpos hle => ?_, fun hlo hhi => ?_, fun hwide => ?_⟩
  · refine exec_circle_painted filled ign x y r color s (by omega) fun p => ?_
    rw [hr]
    exact mem_circlePixels_zero_radius hpos hle
  · refine exec_circle_painted filled ign x y r color s (by omega) fun p => ?_
    rw [circlePixels_one_sample _ _ _ _ hlo hhi]
    exact List.mem_singleton
  · rw [exec_circle filled ign x y r color s (by omega), circlePixels_no_sample _ _ _ _ _ hwide, drawAndRespond_nil]

end Sys2Proof.Safety
end

section
/-! PROOFS. The circle sampler ROM (43_circle_rom.md R210, R212): what holds of every constant of the table, what holds of
every radian row but row 0, and the exact rows. -/

namespace Sys2Proof.Safety

open Sys2Proof.Machine

/-- What holds of every entry of a list after its first holds of the entry of every row from 1 on. -/
theorem getD_of_forall_mem_tail {α : Type} {P : α → Prop} {l : List α} {d : α} (htail : ∀ v ∈ l.tail, P v) {n : Nat}
    (hpos : 1 ≤ n) (hn : n < l.length) : P (l.getD n d) := by
  obtain ⟨k, rfl⟩ := Nat.exists_eq_add_of_le' hpos
  have hk : k < l.tail.length := by rw [List.length_tail]; omega
  have hentry : l.getD (k + 1) d = l.tail[k] := by rw [List.getD_eq_getElem _ _ hn, List.getElem_tail]
  exact hentry ▸ htail _ (List.getElem_mem hk)

/-- Each column of the table has its 360 rows (43_circle_rom.md R210). -/
theorem rom_length : cosR.length = 360 ∧ sinR.length = 360 ∧ cosD.length = 360 ∧ sinD.length = 360 := by
  decide +kernel

/-- Every constant is at most 1 in absolute value, with 30 fraction bits (43_circle_rom.md R210): one check per constant. -/
theorem rom_range : ∀ v ∈ cosR ++ sinR ++ cosD ++ sinD, -(2 ^ 30) ≤ v ∧ v ≤ (2 ^ 30 : Int) := by decide +kernel

/-- From row 1 on no radian sine is nearer 0 than that of row 355 (43_circle_rom.md R212). -/
theorem sinR_tail_natAbs_ge : ∀ v ∈ sinR.tail, 32367 ≤ v.natAbs := by decide +kernel

/-- From row 1 on no radian cosine is nearer 0 than that of row 344 (43_circle_rom.md R212). -/
theorem cosR_tail_natAbs_ge : ∀ v ∈ cosR.tail, 4719690 ≤ v.natAbs := by decide +kernel

/-- No radian row but row 0 has a constant near 0: the bounds are those of rows 355 and 344. -/
theorem radian_rows_away_from_zero {n : Nat} (hpos : 1 ≤ n) (hn : n < 360) :
    32367 ≤ (sinRom .radiansAsGiven n).natAbs ∧ 4719690 ≤ (cosRom .radiansAsGiven n).natAbs := by
  obtain ⟨hcos, hsin, -, -⟩ := rom_length
  exact ⟨getD_of_forall_mem_tail sinR_tail_natAbs_ge hpos (hsin ▸ hn),
    getD_of_forall_mem_tail cosR_tail_natAbs_ge hpos (hcos ▸ hn)⟩

/-- The degree rows at whole quarter turns hold 0, 1 and -1 exactly (43_circle_rom.md R212). -/
theorem degree_rows_quarter_turns :
    (cosRom .degrees 90 = 0 ∧ cosRom .degrees 270 = 0 ∧ sinRom .degrees 180 = 0) ∧
      cosRom .degrees 180 = -(2 ^ 30) ∧ sinRom .degrees 90 = 2 ^ 30 ∧ sinRom .degrees 270 = -(2 ^ 30) := by
  refine ⟨⟨?_, ?_, ?_⟩, ?_, ?_, ?_⟩ <;> rfl

/-- The degree rows of a cosine or a sine of one half hold it exactly (43_circle_rom.md R212). -/
theorem degree_rows_one_half : cosRom .degrees 60 = 2 ^ 29 ∧ sinRom .degrees 30 = 2 ^ 29 := ⟨rfl, rfl⟩

/-- The radian rows nearest a multiple of pi and nearest an odd multiple of pi / 2 (43_circle_rom.md R212). -/
theorem radian_rows_nearest_zero :
    sinRom .radiansAsGiven 355 = -32367 ∧ cosRom .radiansAsGiven 355 = -(2 ^ 30) ∧
      cosRom .radiansAsGiven 344 = -4719690 := ⟨rfl, rfl, rfl⟩

/-- Settles O30: the range and the bounds of the radian rows by a check of each constant, the listed rows by reading them. -/
theorem romHoldsItsExactEntries : Obligations.RomHoldsItsExactEntries := by
  obtain ⟨hzeros, hones⟩ := degree_rows_quarter_turns
  exact ⟨rom_length, rom_range, ⟨cosRom_zero _, cosRom_zero _, sinRom_zero _, sinRom_zero _⟩, hzeros,
    degree_rows_one_half, hones, radian_rows_nearest_zero, fun _ hpos hn => radian_rows_away_from_zero hpos hn⟩

end Sys2Proof.Safety
end

section
/-! PROOFS. The glyph family (44_glyph.md): the pictures of the digits (R218, R225), DIGIT (R219), the decimal digits of a
number (R220), and NUMBER (R221 to R224). -/

namespace Sys2Proof.Safety

open Sys2Proof.Machine

/-! ### The glyphs -/

/-- Settles O33: the pictures and then the counts, by evaluating the seven-segment tables for the ten digits. -/
theorem glyphPictures : Obligations.GlyphPictures := ⟨by decide, by decide⟩

/-- The points of a glyph are the cells of its segments, moved to its position (44_glyph.md R218). -/
theorem mem_glyphPixels_iff {x y : Int} {d : Nat} {p : Point} : p ∈ glyphPixels x y d ↔ GlyphPoint x y d p := by
  simp only [glyphPixels, digitCells, List.map_flatMap, List.mem_flatMap, List.mem_map, GlyphPoint, eq_comm]

/-! ### DIGIT -/

/-- DIGIT of a decimal digit draws its glyph (44_glyph.md R219). -/
theorem exec_digit (ign : Bool) (x y : BitVec 16) {n : BitVec 16} (color : BitVec 32) (s : State) (hn : n.toNat ≤ 9) :
    exec (.digit ign x y n color) s =
      .next (drawAndRespond (colour color) ign (glyphPixels x.toInt y.toInt n.toNat) s) :=
  if_neg (Nat.not_lt.mpr hn)

/-- DIGIT of a number above 9 is turned away (44_glyph.md R219). -/
theorem exec_digit_of_above_nine (ign : Bool) (x y : BitVec 16) {n : BitVec 16} (color : BitVec 32) (s : State)
    (hn : n.toNat > 9) : exec (.digit ign x y n color) s = .next (turnedAway s) := by
  rw [← rejectUnsupported_eq_turnedAway]
  exact if_pos hn

/-- Settles O34: DIGIT draws the list of its glyph's points. -/
theorem digitLightsItsSegments : Obligations.DigitLightsItsSegments := by
  intro ign x y n color s
  exact ⟨decode_of_encode_eq rfl (joinFields_formatS_of_no_fill .digit ign x y n 0#16 color),
    fun hn => ⟨_, exec_digit ign x y color s hn, painted_drawAndRespond _ _ _ _ _ fun _ => mem_glyphPixels_iff⟩,
    exec_digit_of_above_nine ign x y color s⟩

/-! ### The decimal digits -/

/-- Every turn of the loop divides by 10, so fuel for one turn per unit of the number is enough (44_glyph.md R220). -/
theorem digitsLoop_eq_digits {fuel n : Nat} (hpos : n ≠ 0) (hfuel : n ≤ fuel) : digitsLoop fuel n = Nat.digits 10 n := by
  induction fuel generalizing n with
  | zero => exact absurd (Nat.le_zero.mp hfuel) hpos
  | succ fuel ih =>
    by_cases hone : n ≤ 9
    · rw [digitsLoop, if_pos hone, Nat.digits_of_lt 10 n hpos (by omega)]
    · rw [digitsLoop, if_neg hone, ih (by omega) (by omega), Nat.digits_def' (by decide) (Nat.pos_of_ne_zero hpos)]

/-- The digit list is the decimal representation, which for 0 is the one digit 0 (44_glyph.md R220). -/
theorem decimalDigits_eq (n : Nat) : decimalDigits n = if n = 0 then [0] else Nat.digits 10 n := by
  by_cases hzero : n = 0
  · rw [if_pos hzero, hzero]; rfl
  · rw [if_neg hzero]; exact digitsLoop_eq_digits hzero le_rfl

theorem length_decimalDigits (n : Nat) : (decimalDigits n).length = if n ≤ 9 then 1 else Nat.log 10 n + 1 := by
  by_cases hzero : n = 0
  · rw [hzero]; rfl
  · rw [decimalDigits_eq, if_neg hzero, Nat.length_digits 10 n (by decide) hzero]
    by_cases hone : n ≤ 9
    · rw [if_pos hone, Nat.log_of_lt (by omega)]
    · rw [if_neg hone]

/-- Settles O35: by the loop's digits, their number, and 2 ^ 16 below 10 ^ 5. -/
theorem decimalDigitsAreTheDigits : Obligations.DecimalDigitsAreTheDigits := by
  refine ⟨decimalDigits_eq, fun n hn => ?_, length_decimalDigits⟩
  have hlog : Nat.log 10 n < 5 := Nat.log_lt_of_lt_pow' (by decide) (hn.trans (by decide))
  rw [length_decimalDigits]
  split_ifs <;> omega

/-! ### NUMBER -/

/-- The points of a number are those of its digits' glyphs, each at its column of the layout (44_glyph.md R223). -/
theorem mem_numberPixels_iff {x y : Int} {n gap : Nat} {p : Point} :
    p ∈ numberPixels x y n gap ↔ ∃ i d : Nat, (decimalDigits n)[i]? = some d ∧
      GlyphPoint (x + layoutWidth (decimalDigits n).length gap - 3 - (i : Int) * (3 + gap)) y d p := by
  simp only [numberPixels, List.mem_flatMap, Prod.exists, List.mem_zipIdx_iff_getElem?, mem_glyphPixels_iff, Nat.cast_mul,
    Nat.cast_add, Nat.cast_ofNat]
  exact exists_comm

/-- NUMBER of a layout that fits draws its glyphs (44_glyph.md R222). -/
theorem exec_number (ign : Bool) (x y : BitVec 16) {n gap : BitVec 16} (color : BitVec 32) (s : State)
    (hfits : x.toInt + layoutWidth (decimalDigits n.toNat).length gap.toNat ≤ 12) :
    exec (.number ign x y n gap color) s =
      .next (drawAndRespond (colour color) ign (numberPixels x.toInt y.toInt n.toNat gap.toNat) s) :=
  if_neg (Int.not_lt.mpr hfits)

/-- NUMBER of a layout that does not fit is turned away (44_glyph.md R222). -/
theorem exec_number_of_too_wide (ign : Bool) (x y : BitVec 16) {n gap : BitVec 16} (color : BitVec 32) (s : State)
    (hwide : x.toInt + layoutWidth (decimalDigits n.toNat).length gap.toNat > 12) :
    exec (.number ign x y n gap color) s = .next (turnedAway s) := by
  rw [← rejectUnsupported_eq_turnedAway]
  exact if_pos hwide

/-- Settles O36: NUMBER draws the list of its glyphs' points; its digits are the decimal ones. -/
theorem numberDrawsItsDigits : Obligations.NumberDrawsItsDigits := by
  rintro ign x y n gap color s digits width hdigits rfl
  obtain rfl : digits = decimalDigits n.toNat := hdigits.trans (decimalDigits_eq n.toNat).symm
  exact ⟨decode_of_encode_eq rfl (joinFields_formatS_of_no_fill .number ign x y n gap color),
    fun hfits => ⟨_, exec_number ign x y color s hfits, painted_drawAndRespond _ _ _ _ _ fun _ => mem_numberPixels_iff⟩,
    exec_number_of_too_wide ign x y color s⟩

end Sys2Proof.Safety
end

section
/-! PROOFS. The rate and diagnostics family (45_rate_diag.md): SET_TPS (R236), CLEAR_DIAG (R241), and the commands that only
answer: NOP (R240), GET_TPS (R237), IS_ANIM_RUNNING (46_animation.md R258), GET_CONTROLS and GET_STATUS_LEN
(47_control_state.md R282, R285). -/

namespace Sys2Proof.Safety

open Sys2Proof.Machine

/-! ### SET_TPS -/

/-- The packet of a command whose one operand is the low word: everything between the opcode and the word is 0
(30_encoding.md R103, R106). -/
theorem joinFields_low_word (op : Op) (value : BitVec 32) :
    joinFields { bareFields op with color := value } = op.code ++ 0#88 ++ value :=
  have hzeros : op.code ++ 0#7 ++ 0#1 ++ 0#16 ++ 0#16 ++ 0#16 ++ 0#32 = op.code ++ 0#88 := by cases op <;> rfl
  (joinFields_formatP op false 0#16 0#16 value).trans (congrArg (· ++ value) hzeros)

theorem clampTps_range (v : Int) : 0 ≤ clampTps v ∧ clampTps v ≤ 51200 :=
  ⟨le_min (le_max_right v 0) (by decide), min_le_right _ _⟩

/-- TPS holds the clamped rate exactly: 51200 fits its 16 bits (45_rate_diag.md R236). -/
theorem toNat_ofInt_clampTps (v : Int) : ((BitVec.ofInt 16 (clampTps v)).toNat : Int) = clampTps v := by
  obtain ⟨hnonneg, hle⟩ := clampTps_range v
  exact toNat_ofInt_of_range hnonneg (hle.trans_lt (by decide))

/-- SET_TPS writes TPS and nothing else but the response (45_rate_diag.md R236). -/
theorem exec_setTps (value : BitVec 32) (s : State) :
    exec (.setTps value) s = .next { answered 0#32 s with tps := BitVec.ofInt 16 (clampTps value.toInt) } :=
  congrArg Host.Outcome.next (respond_okResponse ..)

/-- Settles O37: SET_TPS writes the clamped rate, which TPS holds exactly. -/
theorem setTpsStoresTheClampedRate : Obligations.SetTpsStoresTheClampedRate := fun value s =>
  ⟨decode_of_encode_eq rfl (joinFields_low_word .setTps value), _, exec_setTps value s, toNat_ofInt_clampTps value.toInt, rfl⟩

/-! ### The commands that only answer -/

/-- A command that ends by answering `data` with no flag only answers, however its DATA is written. -/
theorem next_respond_eq_answered {data word : BitVec 32} (s : State) (h : data = word) :
    (.next (respond (okResponse data) s) : Host.Outcome State Fault Refusal) = .next (answered word s) :=
  congrArg Host.Outcome.next ((respond_okResponse data s).trans (congrArg (answered · s) h))

theorem exec_nop (s : State) : exec .nop s = .next (answered 0#32 s) :=
  next_respond_eq_answered s rfl

theorem exec_getTps (s : State) : exec .getTps s = .next (answered (0#16 ++ s.tps) s) :=
  next_respond_eq_answered s (setWidth_eq_zero_append s.tps)

theorem exec_isAnimRunning (s : State) :
    exec .isAnimRunning s = .next (answered (0#31 ++ BitVec.ofBool s.slot.active) s) :=
  next_respond_eq_answered s (setWidth_eq_zero_append (BitVec.ofBool s.slot.active))

theorem exec_getControls (s : State) : exec .getControls s = .next (answered (0#24 ++ s.controls) s) :=
  next_respond_eq_answered s (setWidth_eq_zero_append s.controls)

theorem exec_getStatusLen (s : State) : exec .getStatusLen s = .next (answered (0#16 ++ s.statusLen) s) :=
  next_respond_eq_answered s (setWidth_eq_zero_append s.statusLen)

/-- Settles O38: each packet is the encoding of its command, and each command only answers. -/
theorem queriesOnlyAnswer : Obligations.QueriesOnlyAnswer :=
  ⟨⟨decode_of_encode_eq rfl rfl, decode_of_encode_eq rfl rfl, decode_of_encode_eq rfl rfl, decode_of_encode_eq rfl rfl,
      decode_of_encode_eq rfl rfl⟩,
    fun s => ⟨exec_nop s, exec_getTps s, exec_isAnimRunning s, exec_getControls s, exec_getStatusLen s⟩⟩

/-! ### CLEAR_DIAG -/

/-- Settles O39: CLEAR_DIAG ends without ORing its flags into DIAG; its DATA is the DIAG it found. -/
theorem clearDiagAnswersAndClears : Obligations.ClearDiagAnswersAndClears := by
  refine ⟨decode_of_encode_eq rfl rfl, fun s => ?_⟩
  have hdata : s.diag.setWidth 32 = 0#29 ++ s.diag := setWidth_eq_zero_append s.diag
  rw [exec_clearDiag, hdata]
  rfl

end Sys2Proof.Safety
end

section
/-! PROOFS. The animation family (46_animation.md): RUN_ANIM loads the slot (R252, R256), STOP_ANIM empties it (R257), TICK draws
the frame of the elapsed time and retires the slot on time (R253, R259, R260), a second TICK at one NOW changes nothing (R250,
R261), and a ring of radius 17 around a centre in the grid lies off it (R266). -/

namespace Sys2Proof.Safety

open Sys2Proof.Machine

/-! ### RUN_ANIM -/

/-- The packet of RUN_ANIM, whatever its KIND: the encoder's joined and halved fields are the operands as they stand
(30_encoding.md R107). -/
theorem encode_runAnim (kind : BitVec 4) (filled : Bool) (sx sy : BitVec 8) (dur keep color : BitVec 32) :
    encode (.runAnim kind filled sx sy dur keep color) =
      0x10#8 ++ kind ++ 0#2 ++ BitVec.ofBool filled ++ 0#1 ++ sx ++ sy ++ dur ++ keep ++ color := by
  have hcentre {w : Nat} (p : BitVec w) : p ++ sx ++ sy = (p ++ (sx ++ sy)).cast (Nat.add_assoc w 8 8).symm :=
    BitVec.append_assoc
  have hhalves {w : Nat} (p : BitVec w) (v : BitVec 32) :
      p ++ v.extractLsb' 16 16 ++ v.extractLsb' 0 16 = (p ++ v).cast (Nat.add_assoc w 16 16).symm := by
    rw [BitVec.append_assoc, extractLsb'_glue v 16 16 0, extractLsb'_whole]
  calc encode (.runAnim kind filled sx sy dur keep color)
    _ = 0x10#8 ++ kind ++ 0#2 ++ BitVec.ofBool filled ++ 0#1 ++ (sx ++ sy) ++
          dur.extractLsb' 16 16 ++ dur.extractLsb' 0 16 ++ keep.extractLsb' 16 16 ++ keep.extractLsb' 0 16 ++ color := rfl
    _ = 0x10#8 ++ kind ++ 0#2 ++ BitVec.ofBool filled ++ 0#1 ++ (sx ++ sy) ++ dur ++ keep ++ color := by
      rw [hhalves _ dur, hhalves _ keep]; rfl
    _ = 0x10#8 ++ kind ++ 0#2 ++ BitVec.ofBool filled ++ 0#1 ++ sx ++ sy ++ dur ++ keep ++ color := by
      rw [hcentre]; rfl

/-- A packet of RUN_ANIM with another KIND than SPLASH is illegal for that reason: every check before KIND passes
(30_encoding.md R113, R119). -/
theorem decode_encode_runAnim_of_kind {kind : BitVec 4} (filled : Bool) (sx sy : BitVec 8) (dur keep color : BitVec 32)
    (hkind : kind ≠ 0#4) : decode (encode (.runAnim kind filled sx sy dur keep color)) = .illegal .kindNotSplash := by
  have hopcode : opOfCode Op.runAnim.code = some .runAnim := opOfCode_code .runAnim
  simp [decode, encode, splitPacket_joinFields, encodeFields, bareFields, decodeFields, hopcode, reservedClear, Op.format,
    Op.fillLegal, hkind]

/-- RUN_ANIM of at least one millisecond loads the slot and changes nothing else but the response (46_animation.md R256). -/
theorem exec_runAnim (kind : BitVec 4) (filled : Bool) (sx sy : BitVec 8) {dur : BitVec 32} (keep color : BitVec 32)
    (s : State) (hdur : dur.toNat ≠ 0) :
    exec (.runAnim kind filled sx sy dur keep color) s = .next { answered 0#32 s with slot := {
      active := true, kind := kind, sx := sx, sy := sy, scolor := colour color, sfill := filled,
      maxr := BitVec.ofInt 8 (splashMaxRadius sx.toInt sy.toInt), duration := dur, keep := keep, start := s.now } } :=
  (if_neg hdur).trans (congrArg Host.Outcome.next (respond_okResponse ..))

/-- RUN_ANIM of no millisecond is turned away (46_animation.md R256). -/
theorem exec_runAnim_of_zero_duration (kind : BitVec 4) (filled : Bool) (sx sy : BitVec 8) {dur : BitVec 32}
    (keep color : BitVec 32) (s : State) (hdur : dur.toNat = 0) :
    exec (.runAnim kind filled sx sy dur keep color) s = .next (turnedAway s) := by
  rw [← rejectUnsupported_eq_turnedAway]
  exact if_pos hdur

/-- Settles O44: the packet by the encoder, the slot by the effect of RUN_ANIM, its MAXR by the slot invariant. -/
theorem runAnimLoadsTheSlot : Obligations.RunAnimLoadsTheSlot := by
  intro kind filled sx sy dur keep color s
  refine ⟨decode_of_encode_eq rfl (encode_runAnim 0 filled sx sy dur keep color), fun hkind => ?_, fun hdur => ?_,
    exec_runAnim_of_zero_duration kind filled sx sy keep color s⟩
  · rw [← encode_runAnim]
    exact decode_encode_runAnim_of_kind filled sx sy dur keep color hkind
  · have hslot := slotOk_loaded filled sx sy dur keep (colour color) s.now hdur
    exact ⟨_, exec_runAnim kind filled sx sy keep color s hdur, hslot.radius rfl, hslot.radiusLo rfl, hslot.radiusHi rfl, rfl⟩

/-! ### STOP_ANIM -/

/-- Settles O45: STOP_ANIM answers with the slot released, and an Idle slot is all zeros. -/
theorem stopAnimReleasesTheSlot : Obligations.StopAnimReleasesTheSlot :=
  ⟨decode_of_encode_eq rfl rfl, fun s => congrArg Host.Outcome.next (respond_okResponse 0#32 (release s))⟩

/-! ### The frame of a TICK -/

/-- The points the Splash paints are those of its ring (46_animation.md R253, R254). -/
theorem mem_splashPixels_iff {s : State} {el : Nat} {p : Point} :
    p ∈ splashPixels s.params.angleUnit s.slot el ↔ SplashRing s el p := by
  simp only [splashPixels, splashStep, mem_circlePixels_iff, Nat.mul_comm _ 2]
  exact Iff.rfl

/-- A cell of the frame: the ring's colour on the ring, else black, or with SFILL the cell as it was (46_animation.md R253). -/
theorem pixRead_splashFrame (u : Config.AngleUnit) (sl : Slot) (el : Nat) (pix : Pix) {x y : Int} (h : InGrid x y) :
    pixRead (splashFrame u sl el pix) x y =
      if (x, y) ∈ splashPixels u sl el then sl.scolor else if sl.sfill = true then pixRead pix x y else 0#24 := by
  rw [splashFrame, pixRead_paint _ _ _ _ h]
  cases sl.sfill <;> simp [pixRead_solid _ _ _ h]

/-- A cell of the frame that the ring does not reach. -/
theorem pixRead_tickFrame_of_not_ring {s : State} {x y : Int} (h : InGrid x y) (hring : ¬ SplashRing s (elapsed s) (x, y)) :
    pixRead (tickFrame s) x y = if s.slot.sfill = true then pixRead s.pix x y else 0#24 := by
  rw [tickFrame, pixRead_splashFrame _ _ _ _ h, if_neg (mt mem_splashPixels_iff.mp hring)]

/-- Drawing the same frame over itself leaves it as it is. -/
theorem splashFrame_idem (u : Config.AngleUnit) (sl : Slot) (el : Nat) (pix : Pix) :
    splashFrame u sl el (splashFrame u sl el pix) = splashFrame u sl el pix := by
  refine pix_ext fun x y h => ?_
  simp only [pixRead_splashFrame _ _ _ _ h]
  split_ifs <;> rfl

/-- A second frame at one NOW, over the first and after its response, is the first (46_animation.md R261). -/
theorem tickFrame_again (r : Response) (s : State) : tickFrame (respond r { s with pix := tickFrame s }) = tickFrame s :=
  splashFrame_idem s.params.angleUnit s.slot (elapsed s) s.pix

/-! ### TICK -/

/-- The elapsed time is the distance from START to NOW modulo 2^64 (46_animation.md R259, R265). -/
theorem elapsed_eq (s : State) : elapsed s = (s.now.toNat + (2 ^ 64 - s.slot.start.toNat)) % 2 ^ 64 := by
  rw [elapsed, BitVec.toNat_sub, Nat.add_comm]

/-- Past the hold window the animation is past its duration too (46_animation.md R260). -/
theorem retires_iff {sl : Slot} {el : Nat} : retires sl el = true ↔ el > sl.duration.toNat + sl.keep.toNat := by
  rw [retires, splashFinished, Bool.and_eq_true, decide_eq_true_iff, decide_eq_true_iff, millis, millis]
  omega

/-- DATA of a TICK: RAN, with FINISHED past the duration, with RETIRED past the hold window (46_animation.md R259). -/
theorem tickData_eq (sl : Slot) (el : Nat) :
    tickData (retires sl el) (splashFinished sl el) =
      if el ≤ sl.duration.toNat then 1#32 else if el ≤ sl.duration.toNat + sl.keep.toNat then 3#32 else 7#32 := by
  have hfinished : splashFinished sl el = decide (el > sl.duration.toNat) := rfl
  have hretires : retires sl el = decide (el > sl.duration.toNat + sl.keep.toNat) := by
    rw [Bool.eq_iff_iff, retires_iff, decide_eq_true_iff]
  rw [hfinished, hretires]
  split_ifs with hrun hhold
  · rw [decide_eq_false (by omega), decide_eq_false (by omega)]; rfl
  · rw [decide_eq_false (by omega), decide_eq_true (by omega)]; rfl
  · rw [decide_eq_true (by omega), decide_eq_true (by omega)]; rfl

/-- TICK with no animation only answers (46_animation.md R259). -/
theorem exec_tick_of_idle {s : State} (hidle : s.slot.active = false) : exec .tick s = .next (answered 0#32 s) :=
  (if_neg (Bool.eq_false_iff.mp hidle)).trans (next_respond_eq_answered s rfl)

/-- TICK with an animation, on both sides of the retirement: the frame, the answer, and the slot kept or released
(46_animation.md R259, R260). -/
theorem exec_tick_of_running {s : State} (hact : s.slot.active = true) :
    exec .tick s = .next { answered (tickData (retires s.slot (elapsed s)) (splashFinished s.slot (elapsed s))) s with
      pix := tickFrame s
      slot := if retires s.slot (elapsed s) = true then Slot.idle else s.slot } := by
  by_cases hret : retires s.slot (elapsed s) = true
  · rw [exec_tick_retires hact hret, if_pos hret, hret, respond_okResponse]; rfl
  · rw [exec_tick_draws hact hret, if_neg hret, Bool.eq_false_iff.mpr hret, respond_okResponse]; rfl

/-- Settles O46: the frame by its ring, the answer and the release by the elapsed time. -/
theorem tickDrawsAndRetires : Obligations.TickDrawsAndRetires := by
  refine ⟨decode_of_encode_eq rfl rfl, fun s el hel => ⟨exec_tick_of_idle, fun hact _ => ?_⟩⟩
  obtain rfl : el = elapsed s := hel.trans (elapsed_eq s).symm
  refine ⟨_, exec_tick_of_running hact, fun x y h hring => ?_, fun x y h hring => pixRead_tickFrame_of_not_ring h hring, ?_⟩
  · exact (pixRead_splashFrame _ _ _ _ h).trans (if_pos (mem_splashPixels_iff.mpr hring))
  · simp only [tickData_eq, retires_iff]

/-- A TICK that leaves the slot Running found it so and did not retire it: it drew its frame (46_animation.md R259). -/
theorem tick_keeps_slot {s t : State} (h : exec .tick s = .next t) (hkept : t.slot.active = true) :
    s.slot.active = true ∧ ¬ retires s.slot (elapsed s) = true ∧
      t = respond (okResponse (tickData false (splashFinished s.slot (elapsed s)))) { s with pix := tickFrame s } := by
  cases hact : s.slot.active with
  | false =>
    cases (exec_tick_of_idle hact).symm.trans h
    exact absurd (hact.symm.trans hkept) Bool.false_ne_true
  | true =>
    by_cases hret : retires s.slot (elapsed s) = true
    · cases (exec_tick_retires hact hret).symm.trans h
      exact absurd hkept Bool.false_ne_true
    · exact ⟨rfl, hret, Host.Outcome.next.inj (h.symm.trans (exec_tick_draws hact hret))⟩

/-- Settles O47: the second TICK draws the frame of the same elapsed time over that frame, which leaves it as it is. -/
theorem tickAgainGivesTheSamePicture : Obligations.TickAgainGivesTheSamePicture := by
  intro s t u hst hkept htu
  obtain ⟨_, hret, rfl⟩ := tick_keeps_slot hst hkept
  obtain rfl := Host.Outcome.next.inj ((exec_tick_draws hkept hret).symm.trans htu)
  rw [respond_pix, respond_pix, respond_slot, respond_resp, respond_resp]
  exact ⟨tickFrame_again _ s, rfl, rfl⟩

/-! ### A ring far outside the grid (46_animation.md R266) -/

/-- A direction of the ROM, with 30 fraction bits, lies at least 12/17 along one of the axes. -/
abbrev FarAlongAnAxis (c v : Int) : Prop := 12 * 2 ^ 30 ≤ 17 * c.natAbs ∨ 12 * 2 ^ 30 ≤ 17 * v.natAbs

/-- Of the cosine and the sine of an angle one is at least `1 / sqrt 2`, which is above 12/17: the check of the ROM, row by row,
for both angle units. -/
theorem rom_rows_far : ∀ row ∈ cosR.zip sinR ++ cosD.zip sinD, FarAlongAnAxis row.1 row.2 := by decide +kernel

/-- A row of two columns is a pair of their zip. -/
theorem getD_pair_mem_zip {α β : Type} {l : List α} {m : List β} {n : Nat} (a : α) (b : β) (hl : n < l.length)
    (hm : n < m.length) : (l.getD n a, m.getD n b) ∈ l.zip m := by
  rw [List.getD_eq_getElem _ _ hl, List.getD_eq_getElem _ _ hm, ← List.getElem_zip (h := by simp [hl, hm])]
  exact List.getElem_mem _

theorem rom_farAlongAnAxis (u : Config.AngleUnit) {n : Nat} (hn : n < 360) : FarAlongAnAxis (cosRom u n) (sinRom u n) := by
  obtain ⟨hcosR, hsinR, hcosD, hsinD⟩ := rom_length
  cases u with
  | radiansAsGiven =>
    exact rom_rows_far _ (List.mem_append_left _ (getD_pair_mem_zip 0 0 (hcosR ▸ hn) (hsinR ▸ hn)))
  | degrees =>
    exact rom_rows_far _ (List.mem_append_right _ (getD_pair_mem_zip 0 0 (hcosD ▸ hn) (hsinD ▸ hn)))

/-- A constant of at least 12/17 on a radius of at least 17 is an offset of at least 12 cells (42_circle.md R192). -/
theorem natAbs_offset_ge {c : Int} {rn rd : Nat} (hpos : 0 < rd) (hfar : 17 * rd ≤ rn) (hc : 12 * 2 ^ 30 ≤ 17 * c.natAbs) :
    12 ≤ (Int.fdiv (c * rn) (2 ^ 30 * rd)).natAbs := by
  have hd : (0 : Int) < 2 ^ 30 * rd := by positivity
  have hprod : 12 * (2 ^ 30 * rd) ≤ c.natAbs * rn := by
    have hmul : 12 * 2 ^ 30 * (17 * rd) ≤ 17 * c.natAbs * rn := Nat.mul_le_mul hc hfar
    linarith
  have hprod' : 12 * (2 ^ 30 * (rd : Int)) ≤ c.natAbs * rn := by exact_mod_cast hprod
  rw [Int.fdiv_eq_ediv_of_nonneg _ hd.le]
  obtain hneg | hnonneg := lt_or_ge c 0
  · have hle : c * rn / (2 ^ 30 * rd) ≤ -12 := Int.ediv_le_of_le_mul hd (by
      rw [Int.ofNat_natAbs_of_nonpos hneg.le] at hprod'
      linarith)
    omega
  · have hge : 12 ≤ c * rn / (2 ^ 30 * rd) := (Int.le_ediv_iff_mul_le hd).mpr (by
      rwa [Int.natAbs_of_nonneg hnonneg] at hprod')
    omega

/-- No point of a ring of radius at least 17 around a centre in the grid lies in the grid: its sample is 12 cells or more off
the centre along one of the axes (46_animation.md R266). -/
theorem not_inGrid_of_splashRing {s : State} {el : Nat} {x y : Int} (hpos : 1 ≤ s.slot.duration.toNat)
    (hcentre : InGrid s.slot.sx.toInt s.slot.sy.toInt) (hfar : 17 * s.slot.duration.toNat ≤ s.slot.maxr.toNat * el)
    (hring : SplashRing s el (x, y)) : ¬ InGrid x y := by
  obtain ⟨k, hk, hp⟩ := hring
  obtain ⟨hx, hy⟩ := Prod.mk.inj hp
  obtain hcos | hsin := rom_farAlongAnAxis s.params.angleUnit (n := 2 * k) (by omega)
  · have hoff := natAbs_offset_ge hpos hfar hcos
    omega
  · have hoff := natAbs_offset_ge hpos hfar hsin
    omega

/-- Settles O49: no InGrid cell is on the ring, so each is what the clear left. -/
theorem farRingWritesNothingButTheClear : Obligations.FarRingWritesNothingButTheClear := by
  intro s el hel hact hpos hcentre hfar
  obtain rfl : el = elapsed s := hel.trans (elapsed_eq s).symm
  exact ⟨_, exec_tick_of_running hact, fun x y h =>
    pixRead_tickFrame_of_not_ring h fun hring => not_inGrid_of_splashRing hpos hcentre hfar hring h⟩

end Sys2Proof.Safety
end

section
/-! PROOFS. The control family (47_control_state.md): SET_CONTROLS replaces the mask (R281), STATUS_STAGE writes its bytes (R283),
STATUS_COMMIT replaces the status string (R284), CTRL_RESET empties both (R286), and each replacement notifies once (R280). -/

namespace Sys2Proof.Safety

open Sys2Proof.Machine

/-! ### The packets of the formats T, L and V with a narrow VALUE (30_encoding.md R106, R108, R109) -/

/-- Between the opcode and the first operand a packet that sets no flag is one byte of zeros (30_encoding.md R101). -/
theorem header_byte_zeros (op : Op) : op.code ++ 0#4 ++ 0#2 ++ BitVec.ofBool false ++ BitVec.ofBool false = op.code ++ 0#8 :=
  (congrArg (· ++ 0#1) (header_zeros op)).trans (append_zeros op.code 7 1)

/-- The packet of a control mask: VALUE[31:8] is 0 as all the bits above it are (47_control_state.md R281). -/
theorem encode_setControls (m : BitVec 8) : encode (.setControls (0#24 ++ m)) = 0x18#8 ++ 0#112 ++ m :=
  calc encode (.setControls (0#24 ++ m))
    _ = 0x18#8 ++ 0#88 ++ (0#24 ++ m) := joinFields_low_word .setControls (0#24 ++ m)
    _ = 0x18#8 ++ 0#88 ++ 0#24 ++ m := (BitVec.append_assoc (x₁ := 0x18#8 ++ 0#88) (x₂ := 0#24) (x₃ := m)).symm
    _ = 0x18#8 ++ 0#112 ++ m := congrArg (· ++ m) (append_zeros 0x18#8 88 24)

/-- Two neighbouring slices of an operand are one wider slice of it. -/
theorem append_slices {w u : Nat} (p : BitVec w) (v : BitVec u) (n m k : Nat) :
    p ++ v.extractLsb' (k + m) n ++ v.extractLsb' k m = (p ++ v.extractLsb' k (n + m)).cast (Nat.add_assoc w n m).symm := by
  rw [BitVec.append_assoc, extractLsb'_glue]

/-- The packet of a staging command: the three slices BYTES is kept in are the operand as it stands (30_encoding.md R108). -/
theorem encode_statusStage (offset : BitVec 16) (count : BitVec 8) (bytes : BitVec 64) :
    encode (.statusStage offset count bytes) = 0x1A#8 ++ 0#8 ++ offset ++ count ++ 0#24 ++ bytes :=
  calc encode (.statusStage offset count bytes)
    _ = 0x1A#8 ++ 0#8 ++ offset ++ (count ++ 0#8) ++ 0#16 ++
          bytes.extractLsb' 48 16 ++ bytes.extractLsb' 32 16 ++ bytes.extractLsb' 0 32 :=
      congrArg (· ++ offset ++ (count ++ 0#8) ++ 0#16 ++
          bytes.extractLsb' 48 16 ++ bytes.extractLsb' 32 16 ++ bytes.extractLsb' 0 32) (header_byte_zeros .statusStage)
    _ = 0x1A#8 ++ 0#8 ++ offset ++ (count ++ 0#8) ++ 0#16 ++ bytes.extractLsb' 32 32 ++ bytes.extractLsb' 0 32 :=
      congrArg (· ++ bytes.extractLsb' 0 32) (append_slices _ bytes 16 16 32)
    _ = 0x1A#8 ++ 0#8 ++ offset ++ (count ++ 0#8) ++ 0#16 ++ bytes.extractLsb' 0 64 := append_slices _ bytes 32 32 0
    _ = 0x1A#8 ++ 0#8 ++ offset ++ (count ++ 0#8) ++ 0#16 ++ bytes := by rw [extractLsb'_whole]
    _ = 0x1A#8 ++ 0#8 ++ offset ++ count ++ 0#8 ++ 0#16 ++ bytes :=
      congrArg (· ++ 0#16 ++ bytes) (BitVec.append_assoc (x₁ := 0x1A#8 ++ 0#8 ++ offset) (x₂ := count) (x₃ := 0#8)).symm
    _ = 0x1A#8 ++ 0#8 ++ offset ++ count ++ 0#24 ++ bytes := congrArg (· ++ bytes) (append_zeros _ 8 16)

/-- The packet of a commit: everything below LEN is 0 (30_encoding.md R109). -/
theorem encode_statusCommit (len : BitVec 16) : encode (.statusCommit len) = 0x1B#8 ++ 0#8 ++ len ++ 0#96 :=
  calc encode (.statusCommit len)
    _ = 0x1B#8 ++ 0#8 ++ len ++ 0#16 ++ 0#16 ++ 0#16 ++ 0#16 ++ 0#32 :=
      congrArg (· ++ len ++ 0#16 ++ 0#16 ++ 0#16 ++ 0#16 ++ 0#32) (header_byte_zeros .statusCommit)
    _ = 0x1B#8 ++ 0#8 ++ len ++ 0#32 ++ 0#16 ++ 0#16 ++ 0#32 := congrArg (· ++ 0#16 ++ 0#16 ++ 0#32) (append_zeros _ 16 16)
    _ = 0x1B#8 ++ 0#8 ++ len ++ 0#32 ++ 0#32 ++ 0#32 := congrArg (· ++ 0#32) (append_zeros _ 16 16)
    _ = 0x1B#8 ++ 0#8 ++ len ++ 0#64 ++ 0#32 := congrArg (· ++ 0#32) (append_zeros _ 32 32)
    _ = 0x1B#8 ++ 0#8 ++ len ++ 0#96 := append_zeros _ 64 32

/-! ### What each command does -/

/-- SET_CONTROLS replaces the mask and notifies, whatever the mask was (47_control_state.md R281). -/
theorem exec_setControls (value : BitVec 32) (s : State) :
    exec (.setControls value) s = .next (notify { answered 0#32 s with controls := maskOf value }) :=
  congrArg Host.Outcome.next (respond_okResponse ..)

/-- STATUS_STAGE of at most eight bytes that fit STATUS_CAP writes them to STAGE (47_control_state.md R283). -/
theorem exec_statusStage {offset : BitVec 16} {count : BitVec 8} (bytes : BitVec 64) {s : State} (hcount : count.toNat ≤ 8)
    (hfits : offset.toNat + count.toNat ≤ s.params.statusCap) :
    exec (.statusStage offset count bytes) s = .next { answered 0#32 s with
      stage := Memory.writeRun s.stage offset.toNat (stagedByte bytes) count.toNat } :=
  (if_neg (not_or.mpr ⟨Nat.not_lt.mpr hcount, Nat.not_lt.mpr hfits⟩)).trans
    (congrArg Host.Outcome.next (respond_okResponse ..))

/-- STATUS_STAGE of more bytes than a packet carries or STAGE holds is turned away (47_control_state.md R283). -/
theorem exec_statusStage_of_too_long {offset : BitVec 16} {count : BitVec 8} (bytes : BitVec 64) {s : State}
    (hlong : count.toNat > 8 ∨ offset.toNat + count.toNat > s.params.statusCap) :
    exec (.statusStage offset count bytes) s = .next (turnedAway s) := by
  rw [← rejectUnsupported_eq_turnedAway]
  exact if_pos hlong

/-- STATUS_COMMIT of a length above STATUS_CAP is turned away (47_control_state.md R284). -/
theorem exec_statusCommit_of_too_long {len : BitVec 16} {s : State} (hlong : len.toNat > s.params.statusCap) :
    exec (.statusCommit len) s = .next (turnedAway s) := by
  rw [← rejectUnsupported_eq_turnedAway]
  exact if_pos hlong

/-- CTRL_RESET commits the empty string and clears the mask, with one notification for both (47_control_state.md R286). -/
theorem exec_ctrlReset (s : State) :
    exec .ctrlReset s = .next (committed [] 0#16 { answered 0#32 s with controls := 0#8 }) :=
  congrArg Host.Outcome.next (respond_okResponse ..)

/-! ### The commands one by one -/

/-- Settles O50: SET_CONTROLS takes the low byte of VALUE, which is the whole mask of a legal packet. -/
theorem setControlsReplacesAndNotifies : Obligations.SetControlsReplacesAndNotifies := by
  refine fun value s => ⟨fun m => decode_of_encode_eq ?_ (encode_setControls m), exec_setControls value s⟩
  have hclear : (0#24 ++ m).extractLsb' 8 24 = 0#24 := by
    rw [extractLsb'_append_high 0#24 m 8 24 le_rfl, extractLsb'_whole]
  exact beq_iff_eq.mpr hclear

/-- Settles O51: inside the run STAGE reads the bytes of the packet, outside it its old bytes. -/
theorem statusStageWritesItsBytes : Obligations.StatusStageWritesItsBytes := fun offset count bytes _ hform =>
  ⟨decode_of_encode_eq rfl (encode_statusStage offset count bytes),
    fun hcount hfits => ⟨_, exec_statusStage bytes hcount hfits,
      fun a => Memory.read_writeRun offset.toNat (stagedByte bytes) count.toNat a hform, rfl⟩,
    exec_statusStage_of_too_long bytes⟩

/-- Settles O52: the new STATUS is STAGE cut at LEN, so no byte of the old string is left. -/
theorem statusCommitReplacesWholesale : Obligations.StatusCommitReplacesWholesale := fun len s =>
  ⟨decode_of_encode_eq rfl (encode_statusCommit len),
    fun hfits => ⟨_, exec_statusCommit_of_fits hfits, fun a => Memory.read_takeBelow len.toNat a s.stage, rfl⟩,
    exec_statusCommit_of_too_long⟩

/-- Settles O53: the empty memory reads 0x00 everywhere. -/
theorem ctrlResetEmptiesControlState : Obligations.CtrlResetEmptiesControlState :=
  ⟨decode_of_encode_eq rfl rfl, fun s => ⟨_, exec_ctrlReset s, Memory.read_nil, rfl⟩⟩

/-! ### The notification (47_control_state.md R280) -/

/-- From `s` to `t` one notification was counted, modulo 2^32, and pulsed. -/
def Notified (s t : State) : Prop := t.notifyCount = s.notifyCount + 1#32 ∧ t.notifyOut = true

/-- From `s` to `t` no notification was counted and the pulse is as it was. -/
def NotNotified (s t : State) : Prop := t.notifyCount = s.notifyCount ∧ t.notifyOut = s.notifyOut

/-- The three commands that replace a control field. -/
theorem writesNotify_iff {i : Instr} : writesNotify i.op = true ↔
    (∃ value, i = .setControls value) ∨ (∃ len, i = .statusCommit len) ∨ i = .ctrlReset := by
  cases i <;> simp [writesNotify, Instr.op]

/-- A command that replaces a control field notifies once. -/
theorem exec_notifies {i : Instr} {s t : State} (h : exec i s = .next t) (hwrites : writesNotify i.op = true)
    (hsup : ¬ Unsupported s i) : Notified s t := by
  obtain ⟨value, rfl⟩ | ⟨len, rfl⟩ | rfl := writesNotify_iff.mp hwrites
  · obtain rfl := Host.Outcome.next.inj ((exec_setControls value s).symm.trans h)
    exact ⟨rfl, rfl⟩
  · obtain rfl := Host.Outcome.next.inj ((exec_statusCommit_of_fits (Nat.not_lt.mp hsup)).symm.trans h)
    exact ⟨rfl, rfl⟩
  · obtain rfl := Host.Outcome.next.inj ((exec_ctrlReset s).symm.trans h)
    exact ⟨rfl, rfl⟩

/-- A command that replaces no control field, or is turned away, does not notify: of the three that replace one, only
STATUS_COMMIT can be turned away. -/
theorem exec_does_not_notify {i : Instr} {s t : State} (h : exec i s = .next t)
    (hnone : writesNotify i.op = false ∨ Unsupported s i) : NotNotified s t := by
  cases hwrites : writesNotify i.op with
  | false => exact (exec_writesOnly h).notify hwrites
  | true =>
    have hunsup : Unsupported s i := hnone.resolve_left (by simp [hwrites])
    obtain ⟨value, rfl⟩ | ⟨len, rfl⟩ | rfl := writesNotify_iff.mp hwrites
    · exact hunsup.elim
    · obtain rfl := Host.Outcome.next.inj ((exec_statusCommit_of_too_long hunsup).symm.trans h)
      exact ⟨rfl, rfl⟩
    · exact hunsup.elim

/-- Settles O54: a replacement notifies by its effect, and every other packet leaves the counter and the pulse alone. -/
theorem notifyCountsEachReplacementOnce : Obligations.NotifyCountsEachReplacementOnce :=
  ⟨fun _ _ _ h => ⟨exec_notifies h, exec_does_not_notify h⟩, fun _ => ⟨rfl, rfl⟩⟩

end Sys2Proof.Safety
end

section
/-! PROOFS. The exceptions family (60_exceptions.md): the UNSUP table decides which commands are turned away (R302), every
response has at most one flag (R306), DIAG collects the flags (R307), an illegal packet only diagnoses (R303), every packet
completes (R305), and the block holds its state between packets (R316). -/

namespace Sys2Proof.Safety

open Sys2Proof.Machine

/-! ### The UNSUP table -/

/-- The digits NUMBER lays out are as many as its number has (44_glyph.md R220, R221). -/
theorem length_decimalDigits_eq_digitCount (n : Nat) : (decimalDigits n).length = digitCount n := by
  rw [decimalDigits_eq, digitCount]
  by_cases hzero : n = 0
  · simp [hzero]
  · have hpos : 1 ≤ (Nat.digits 10 n).length :=
      List.length_pos_iff.mpr (Nat.digits_ne_nil_iff_ne_zero.mpr hzero)
    rw [if_neg hzero, max_eq_right hpos]

/-- A number is unsupported input exactly when its layout ends past the right edge of the grid (44_glyph.md R222). -/
theorem unsupported_number_iff {s : State} {ign : Bool} {x y n gap : BitVec 16} {color : BitVec 32} :
    Unsupported s (.number ign x y n gap color) ↔
      x.toInt + layoutWidth (decimalDigits n.toNat).length gap.toNat > 12 := by
  rw [length_decimalDigits_eq_digitCount]
  exact Iff.rfl

/-- Every input of the UNSUP table is turned away, whatever its IGN (60_exceptions.md R302). -/
theorem exec_of_unsupported {i : Instr} {s : State} (hunsup : Unsupported s i) : exec i s = .next (turnedAway s) := by
  cases i with
  | rect filled ign x y w h color =>
    rw [exec_rect_of_empty filled ign x y color s hunsup, rejectUnsupported_eq_turnedAway]
  | circle filled ign x y r step color => exact exec_circle_of_zero_step filled ign x y r color s hunsup
  | digit ign x y n color => exact exec_digit_of_above_nine ign x y color s hunsup
  | number ign x y n gap color => exact exec_number_of_too_wide ign x y color s (unsupported_number_iff.mp hunsup)
  | runAnim kind filled sx sy dur keep color => exact exec_runAnim_of_zero_duration kind filled sx sy keep color s hunsup
  | statusStage offset count bytes => exact exec_statusStage_of_too_long bytes hunsup
  | statusCommit len => exact exec_statusCommit_of_too_long hunsup
  | nop | set | off | fill | clear | line | getPixel | setTps | getTps | clearDiag | stopAnim | isAnimRunning | tick
  | setControls | getControls | getStatusLen | ctrlReset => exact hunsup.elim

/-- A command outside the UNSUP table answers without UNSUP, and a decoded command never answers with ILL
(60_exceptions.md R302, R306). -/
theorem exec_of_supported {i : Instr} {s : State} (hsup : ¬ Unsupported s i) :
    ∃ t, exec i s = .next t ∧ t.resp.unsup = false ∧ t.resp.ill = false := by
  cases i with
  | rect filled ign x y w h color =>
    obtain ⟨hw, hh⟩ := not_or.mp hsup
    exact ⟨_, exec_rect filled ign x y color s hw hh, rfl, rfl⟩
  | circle filled ign x y r step color => exact ⟨_, exec_circle filled ign x y r color s hsup, rfl, rfl⟩
  | digit ign x y n color => exact ⟨_, exec_digit ign x y color s (Nat.not_lt.mp hsup), rfl, rfl⟩
  | number ign x y n gap color =>
    exact ⟨_, exec_number ign x y color s (Int.not_lt.mp (mt unsupported_number_iff.mpr hsup)), rfl, rfl⟩
  | runAnim kind filled sx sy dur keep color => exact ⟨_, exec_runAnim kind filled sx sy keep color s hsup, rfl, rfl⟩
  | statusStage offset count bytes =>
    obtain ⟨hcount, hfits⟩ := not_or.mp hsup
    exact ⟨_, exec_statusStage bytes (Nat.not_lt.mp hcount) (Nat.not_lt.mp hfits), rfl, rfl⟩
  | statusCommit len => exact ⟨_, exec_statusCommit_of_fits (Nat.not_lt.mp hsup), rfl, rfl⟩
  | tick =>
    cases hact : s.slot.active with
    | false => exact ⟨_, exec_tick_of_idle hact, rfl, rfl⟩
    | true => exact ⟨_, exec_tick_of_running hact, rfl, rfl⟩
  | nop | set | off | fill | clear | line | getPixel | setTps | getTps | clearDiag | stopAnim | isAnimRunning
  | setControls | getControls | getStatusLen | ctrlReset => exact ⟨_, rfl, rfl, rfl⟩

/-- Settles O42: an input of the table is turned away, and any other command answers without UNSUP. -/
theorem unsupportedInputChangesNothing : Obligations.UnsupportedInputChangesNothing := by
  intro i s
  by_cases h : Unsupported s i
  · exact ⟨_, exec_of_unsupported h, ⟨fun _ => h, fun _ => rfl⟩, fun _ => rfl⟩
  · obtain ⟨t, ht, hunsup, _⟩ := exec_of_supported h
    exact ⟨t, ht, by simp [hunsup, h], fun h' => absurd h' h⟩

/-! ### The flags of a response -/

/-- Settles O41: a command of the UNSUP table answers UNSUP alone, any other can raise OOR alone, an illegal packet ILL alone. -/
theorem atMostOneFlagPerResponse : Obligations.AtMostOneFlagPerResponse := by
  refine ⟨fun i s t ht => ?_, fun s => ⟨atMostOneFlag_illResponse, rfl⟩⟩
  by_cases h : Unsupported s i
  · obtain rfl := Host.Outcome.next.inj ((exec_of_unsupported h).symm.trans ht)
    exact ⟨atMostOneFlag_unsupResponse, rfl, fun _ => ⟨rfl, rfl, rfl⟩⟩
  · obtain ⟨u, hu, hunsup, hill⟩ := exec_of_supported h
    obtain rfl := Host.Outcome.next.inj (hu.symm.trans ht)
    exact ⟨by simp [AtMostOneFlag, hunsup, hill], hill, fun h' => absurd h' h⟩

/-- Before its response no command writes DIAG. -/
theorem Effect.diag {s u : State} {i : Instr} (he : Effect s i u) : u.diag = s.diag := by
  cases he <;> rfl

/-- Settles O40: the response of every command but CLEAR_DIAG is ORed into the DIAG its effect left alone. -/
theorem diagIsSticky : Obligations.DiagIsSticky := by
  refine ⟨fun i s t h hi => ?_, fun s t h => ?_, fun s => stickyDiag_illResponse s.diag, rfl, fun s => ?_⟩
  · obtain ⟨a, u, _, he, rfl⟩ | ⟨hclear, _⟩ := exec_cases h
    · rw [respond_diag, he.diag]; rfl
    · exact absurd hclear hi
  · obtain rfl := Host.Outcome.next.inj ((exec_clearDiag s).symm.trans h)
    rfl
  · obtain ⟨_, _, hdiag, _⟩ := exportPortMap s 0x091
    exact hdiag rfl

/-! ### Every packet completes -/

/-- The ENGINE's move on the packet in flight is to run it. -/
theorem engineTurn_of_inFlight {s : State} {p : Packet} (hp : s.inFlight = some p) : engineTurn s = runPacket p s := by
  simp only [engineTurn, hp]

theorem runPacket_of_ok {p : Packet} {i : Instr} (hd : decode p = .ok i) (s : State) :
    runPacket p s = afterPacket (exec i s) := by
  simp only [runPacket, hd]

theorem runPacket_of_illegal {p : Packet} {e : IllegalReason} (hd : decode p = .illegal e) (s : State) :
    runPacket p s = .next (deliverHeldStrobes (rejectIllegal s)) := by
  simp only [runPacket, hd, afterPacket_next]

@[simp] theorem deliverHeldStrobes_busy (s : State) : (deliverHeldStrobes s).busy = s.busy := rfl

/-- Every packet, legal or not, ends in a next state with BUSY = 0, and leaves the reset input and the agenda as they were
(60_exceptions.md R305). -/
theorem runPacket_completes (p : Packet) (s : State) :
    ∃ t, runPacket p s = .next t ∧ t.busy = false ∧ t.resetAsserted = s.resetAsserted ∧ t.agenda = s.agenda := by
  cases hd : decode p with
  | ok i =>
    obtain ⟨t, ht⟩ := exec_completes i s
    have hwrites := exec_writesOnly ht
    exact ⟨deliverHeldStrobes t, by rw [runPacket_of_ok hd, ht, afterPacket_next],
      (deliverHeldStrobes_busy t).trans (exec_busy ht), hwrites.resetAsserted, hwrites.agenda⟩
  | illegal e => exact ⟨_, runPacket_of_illegal hd s, rfl, rfl, rfl⟩

theorem engineTurn_completes (s : State) : ∃ t, engineTurn s = .next t := by
  cases hp : s.inFlight with
  | none => exact ⟨s, engineTurn_idle hp⟩
  | some p =>
    obtain ⟨t, ht, _⟩ := runPacket_completes p s
    exact ⟨t, (engineTurn_of_inFlight hp).trans ht⟩

/-- Only the ENGINE's turn runs a packet; every other turn answers at once. -/
theorem takeTurn_completes (turn : Turn) (s : State) : ∃ t, takeTurn turn s = .next t := by
  cases turn with
  | engine => exact engineTurn_completes s
  | present | beat | read | write | strobe | resetInput => exact ⟨_, rfl⟩

theorem step_completes (s : State) : ∃ t, step s = .next t := by
  cases ha : s.agenda with
  | nil => rw [step_of_no_turn ha]; exact engineTurn_completes _
  | cons turn rest =>
    cases hh : hostHolds turn s with
    | true => rw [step_of_held ha hh]; exact engineTurn_completes _
    | false => rw [step_of_turn ha hh]; exact takeTurn_completes turn _

/-- With reset released the command port accepts what is presented (70_reset_and_hazards.md R333). -/
theorem presentPacket_of_released (q : Packet) {s : State} (hr : s.resetAsserted = false) :
    presentPacket q s = acceptPacket q s :=
  if_neg (Bool.eq_false_iff.mp hr)

/-- Settles O8: the packet's run ends with BUSY = 0 and the reset input as it was, so the port takes the next one. -/
theorem everyPacketCompletes : Obligations.EveryPacketCompletes := by
  refine ⟨fun p s => ?_, step_completes⟩
  obtain ⟨t, ht, hbusy, hreset, _⟩ := runPacket_completes p s
  exact ⟨t, ht, hbusy, fun q hr =>
    congrArg State.inFlight (presentPacket_of_released q (hreset.trans hr))⟩

/-! ### The ENGINE's turn on an illegal packet, and on none -/

/-- An illegal packet changes RESP, DIAG[2] and BUSY (60_exceptions.md R303). -/
theorem rejectIllegal_eq_diagnosed (s : State) : rejectIllegal s =
    { s with
      resp := { data := 0#32, oor := false, unsup := false, ill := true }
      diag := s.diag ||| 4#3
      inFlight := none } := by
  simp only [rejectIllegal_eq, respond, stickyDiag_illResponse]
  rfl

/-- Settles O7: the ENGINE runs the packet in flight, whose whole effect is the illegal packet's response. -/
theorem illegalPacketOnlyDiagnoses : Obligations.IllegalPacketOnlyDiagnoses := by
  intro s p e rest hturn hp hd
  calc step s = engineTurn { s with agenda := rest, notifyOut := false } := step_of_enginesTurn hturn
    _ = runPacket p { s with agenda := rest, notifyOut := false } := engineTurn_of_inFlight hp
    _ = .next (deliverHeldStrobes (rejectIllegal { s with agenda := rest, notifyOut := false })) :=
      runPacket_of_illegal hd _
    _ = _ := by rw [rejectIllegal_eq_diagnosed]; rfl

/-- Settles O57: the ENGINE's turn uses up the turn, and its move with no packet in flight is none. -/
theorem idleEngineHoldsTheState : Obligations.IdleEngineHoldsTheState := fun _ _ hturn hidle =>
  (step_of_enginesTurn hturn).trans (engineTurn_idle hidle)

end Sys2Proof.Safety
end

section
/-! PROOFS. The reset and hazards family (70_reset_and_hazards.md): the reset input restores the reset state and while asserted
shuts the ports (R330), the command port carries one packet at a time (R333), and a TICK in the millisecond of its RUN_ANIM
draws the centre (R336). -/

namespace Sys2Proof.Safety

open Sys2Proof.Machine

/-! ### The reset input -/

/-- Settles O12: a change of the reset input is never held back, and its turn is what the input does. -/
theorem resetInputRestoresTheResetState : Obligations.ResetInputRestoresTheResetState :=
  ⟨fun _ _ ha => step_of_turn ha rfl, fun _ _ ha => step_of_turn ha rfl⟩

theorem presentPacket_of_asserted (p : Packet) {s : State} (hr : s.resetAsserted = true) : presentPacket p s = s :=
  if_pos hr

theorem takeBeat_of_asserted (w : BitVec 32) {s : State} (hr : s.resetAsserted = true) : takeBeat w s = s := if_pos hr

theorem strobe_of_asserted {s : State} (hr : s.resetAsserted = true) : strobe s = s := if_pos hr

/-- While reset is asserted a read of the HOST's port is a free draw (70_reset_and_hazards.md R330). -/
theorem exportRead_of_asserted (a : BitVec 12) {s : State} (hr : s.resetAsserted = true) :
    exportRead a s = { s with exportData := Config.freeExportWord s.freeCount, freeCount := s.freeCount + 1 } := by
  have hfree : exportUnspecified s a = true := by rw [exportUnspecified, hr, Bool.true_or]
  exact if_pos hfree

/-- Settles O13: with BUSY = 0 no turn is held back, and each of the four ends at once under the asserted reset. -/
theorem assertedResetIgnoresPacketsAndStrobes : Obligations.AssertedResetIgnoresPacketsAndStrobes := by
  intro s rest hr hb
  refine ⟨fun p ha => ?_, fun w ha => ?_, fun ha => ?_, fun a ha => ?_⟩
  · exact (step_of_turn ha hb).trans (congrArg Host.Outcome.next (presentPacket_of_asserted p hr))
  · exact (step_of_turn ha hb).trans (congrArg Host.Outcome.next (takeBeat_of_asserted w hr))
  · exact (step_of_turn ha rfl).trans (congrArg Host.Outcome.next (strobe_of_asserted hr))
  · exact ⟨_, (step_of_turn ha rfl).trans (congrArg Host.Outcome.next (exportRead_of_asserted a hr))⟩

/-! ### The command port -/

/-- Settles O14: a packet that finds BUSY = 0 is accepted; one that finds BUSY = 1 keeps its turn while the ENGINE runs the
packet in progress to its end. -/
theorem portAcceptsOnePacketAtATime : Obligations.PortAcceptsOnePacketAtATime := by
  refine ⟨fun s q rest ha hb hr => ?_, fun s p hheld hp => ?_⟩
  · exact (step_of_turn ha hb).trans (congrArg Host.Outcome.next (presentPacket_of_released q hr))
  · have hstep : step s = runPacket p { s with notifyOut := false } :=
      (step_of_enginesTurn (.inr (.inr ⟨hheld, rfl⟩))).trans (engineTurn_of_inFlight hp)
    obtain ⟨t, ht, hbusy, _, hagenda⟩ := runPacket_completes p { s with notifyOut := false }
    exact ⟨hstep, t, hstep.trans ht, hagenda, hbusy⟩

/-! ### A TICK in the millisecond of its RUN_ANIM -/

theorem elapsed_of_start_now {s : State} (hnow : s.now = s.slot.start) : elapsed s = 0 := by
  simp [elapsed, hnow]

/-- At elapsed time 0 the ring has radius 0: its only point is the centre (46_animation.md R253). -/
theorem mem_splashPixels_zero {u : Config.AngleUnit} {sl : Slot} {p : Point} :
    p ∈ splashPixels u sl 0 ↔ p = (sl.sx.toInt, sl.sy.toInt) :=
  mem_circlePixels_zero_radius (by decide) (by decide)

/-- Settles O48: at elapsed time 0 the TICK draws the centre over the clear, answers RAN alone and does not retire. -/
theorem tickInTheSameMillisecondDrawsTheCentre : Obligations.TickInTheSameMillisecondDrawsTheCentre := by
  intro s hact _ hnow
  have helapsed := elapsed_of_start_now hnow
  have hkept : ¬ retires s.slot 0 = true := by rw [retires_iff]; omega
  refine ⟨_, exec_tick_of_running hact, ?_, ?_, fun x y h => ?_⟩
  · exact if_neg (helapsed ▸ hkept)
  · rw [helapsed, tickData_eq, if_pos (Nat.zero_le _)]
    rfl
  · have hcell := pixRead_splashFrame s.params.angleUnit s.slot 0 s.pix h
    simp only [mem_splashPixels_zero, Prod.mk.injEq] at hcell
    simpa only [tickFrame, helapsed] using hcell

end Sys2Proof.Safety
end
